-- ==== Sys2Proof/Word.lean ====
section
/-! DEFINITION. The machine words of the D226: bytes and the multi-byte fields of a payload, an analog reading,
and an identity on the Head Link. A moment on the station's own time base is a `Nat`, in µs from the end of its last reset
(R5, 11.7). -/

namespace Sys2Proof

/-- One byte of a frame (2.1). -/
abbrev Byte := BitVec 8

/-- A two-byte field of a payload (2.6). -/
abbrev Half := BitVec 16

/-- A four-byte field of a payload, and a cumulative total (R4). -/
abbrev Word := BitVec 32

/-- A raw analog reading, 0 to 4095 (R2). -/
abbrev Raw := BitVec 12

/-- An identity on the Head Link, 0 to 7 (R19). -/
abbrev Ident := Fin 8

/-- An order index as the station holds it: 0 to 11, or `none` for the code 255 (2.6). -/
abbrev OrderIndex := Option (Fin 12)

end Sys2Proof
end

