-- ==== Sys2Proof/Syntax.lean ====
section
/-! DEFINITION. The commands of the D226, one constructor of `Instr` per row of spec/opcode_table.json, with the
operands the spec gives the event. Every command but RESET carries `t`, the moment on the station's own time base
at which it happens (notes/assumptions/1.md). The commands that stand for an observed frame carry the sender and the
fields of the payload table 2.6, as they stand on the line: a coded field is a byte, because R24 says what happens to
a code outside its table. -/

namespace Sys2Proof

/-- The 32 frame classes of the payload table 2.6, in the order of their numbers (R19). -/
inductive FrameClass where
  | stopNotice | releasePrepare | releaseConfirm | holdRequest | holdGrant | holdRelease | cutStart | cutDone
  | halted | orderReject | motion | roller | gate | diameter | feedDemand | feedMode | cutCommand | stemOpen
  | stemClose | order | cal | logRecord | faultNotice | clearFault | query | answer | setup | setupEnd | announce
  | class29 | class30 | class31
  deriving DecidableEq, Repr

/-- Why a received frame fails its check (R19, R20). -/
inductive CheckFailure where
  /-- The check word computed differs from the one received. -/
  | checkWord
  /-- The end delimiter is missing or malformed. -/
  | endDelimiter
  /-- The frame breaks off before its end delimiter, or six bits of one level stand in a row. -/
  | brokenOff
  /-- The length byte is above 16. -/
  | lengthAbove16
  /-- The length does not fit the class. -/
  | lengthForClass
  deriving DecidableEq, Repr

/-- The two diameter sources of the Profile Unit (R77). -/
inductive DiameterSource where
  | knife | feed
  deriving DecidableEq, Repr

/-- What the pins show at the end of reset: the straps, latched then, and the levels then present on the quadrature
lines (line 1, line 2), the gate input (high is BLOCKED) and the stop line (low is ASSERTED) (R170, R3, R13, R158). -/
structure Pins where
  role1 : Bool
  role0 : Bool
  id2 : Bool
  id1 : Bool
  id0 : Bool
  cap0 : Bool × Bool
  cap1 : Bool × Bool
  cap2 : Bool × Bool
  gate : Bool
  stop : Bool
  deriving DecidableEq, Repr

/-- A command of the D226: one constructor per row of spec/opcode_table.json, in the table's order. -/
inductive Instr where
  | reset (pins : Pins)
  | quadratureTransition (t : Nat) (channel : Fin 3) (line1 line2 : Bool)
  | chainRisingEdge (t : Nat)
  | chainPeriodExpiry (t : Nat)
  | gateBlockEdge (t : Nat)
  | gateClearEdge (t : Nat)
  | stopLineAssertion (t : Nat)
  | stopLineInactive (t : Nat)
  | sampleInstant (t : Nat) (an0 an1 an2 an3 : Raw)
  | pwmPeriodBoundary (t : Nat) (cs0 cs1 cs2 cs3 : Raw)
  | lineIdle (t : Nat)
  | arbitrationLost (t : Nat)
  | frameDisturbed (t : Nat)
  | transmitComplete (t : Nat)
  | linkCheckFail (t : Nat) (why : CheckFailure)
  | keepAliveExpiry (t : Nat)
  | peerSilenceTimeout (t : Nat) (peer : Ident)
  | announce (t : Nat) (sender : Ident) (role phase stemState revision : Byte)
  | motion (t : Nat) (sender : Ident) (seq : Byte) (total : Word) (contact : Byte)
  | roller (t : Nat) (sender : Ident) (seq : Byte) (left right : Word)
  | gate (t : Nat) (sender : Ident) (seq : Byte) (total : Word)
  | diameter (t : Nat) (sender : Ident) (mm : Half)
  | diameterAged (t : Nat) (source : DiameterSource)
  | closingTimerExpiry (t : Nat)
  | stopNotice (t : Nat) (sender : Ident) (kind : Byte) (serial : Half)
  | releasePrepare (t : Nat) (sender : Ident)
  | releaseArmingExpiry (t : Nat)
  | releaseConfirm (t : Nat) (sender : Ident)
  | holdRequest (t : Nat) (sender : Ident) (serial : Half) (kind index : Byte)
  | holdGrant (t : Nat) (sender : Ident) (serial : Half) (kind index : Byte)
  | holdRelease (t : Nat) (sender : Ident) (serial : Half) (kind index outcome : Byte)
  | cutStart (t : Nat) (sender : Ident) (serial : Half) (kind index attempt : Byte)
  | cutDone (t : Nat) (sender : Ident) (serial : Half) (kind index : Byte) (pAtCut : Word)
  | halted (t : Nat) (sender : Ident) (serial : Half) (index : Byte) (p : Word) (offsize : Byte)
  | orderReject (t : Nat) (sender : Ident) (serial : Half) (index reason : Byte)
  | feedDemand (t : Nat) (sender : Ident) (duty : Half)
  | manualExpiry (t : Nat)
  | feedMode (t : Nat) (sender : Ident) (mode : Byte)
  | cutCommand (t : Nat) (sender : Ident) (serial : Half) (kind : Byte)
  | stemOpen (t : Nat) (sender : Ident) (serial : Half)
  | stemClose (t : Nat) (sender : Ident) (serial : Half)
  | order (t : Nat) (sender : Ident) (serial : Half) (index : Byte) (target : Half) (tolMinus tolPlus : Byte)
      (minTop : Half) (grade : Byte)
  | calValue (t : Nat) (sender : Ident) (entry : Byte) (value : Half)
  | calKey (t : Nat) (sender : Ident) (entry : Byte) (value : Half)
  | clearFault (t : Nat) (sender : Ident) (addressee : Byte)
  | queryStation (t : Nat) (sender : Ident) (addressee index : Byte)
  | queryTrack (t : Nat) (sender : Ident) (addressee index : Byte)
  | queryFault (t : Nat) (sender : Ident) (addressee index : Byte)
  | queryPeer (t : Nat) (sender : Ident) (addressee index : Byte)
  | queryOrder (t : Nat) (sender : Ident) (addressee index : Byte)
  | queryCal (t : Nat) (sender : Ident) (addressee index : Byte)
  | queryLink (t : Nat) (sender : Ident) (addressee index : Byte)
  | setup (t : Nat) (sender : Ident) (addressee item : Byte) (value : Word)
  | setupEnd (t : Nat) (sender : Ident)
  | otherFrameObserved (t : Nat) (sender : Ident) (cls : FrameClass) (payload : List Byte)
  | grantTimerExpiry (t : Nat)
  | chainTimerExpiry (t : Nat)
  | cutTimerExpiry (t : Nat)
  | returnTimerExpiry (t : Nat)
  | knifeOpenTimerExpiry (t : Nat)
  | wheelLiftTimerExpiry (t : Nat)
  deriving DecidableEq, Repr

end Sys2Proof
end

