-- ==== Sys2Proof/Decode.lean ====
section
/-! DEFINITION. The command a word spells by the table's bits. The rows of spec/opcode_table.json give no bits: a command is
an event at the station, and the frames among them have their bits on the line (R19, Machine/Frames.lean). -/

namespace Sys2Proof

/-- The command a word spells by the bits of the opcode table: no row has bits, so no word spells one. -/
def decodeTableWord (_nbits _w : Nat) : Option Instr := none

end Sys2Proof
end

