-- ==== Sys2Proof/Config.lean ====
section
/-! DEFINITION. The numbers the manual fixes for every D226. Numbers the cab can set are settings
(Machine/Settings.lean). The manual leaves no value of this part to the implementation, so there is no free value
here (notes/assumptions/13.md). -/

namespace Sys2Proof.Config

/-- The revision carried in ANNOUNCE "for the part described in this manual" (R31). -/
def revision : Nat := 1

/-- The depth of the handshake FIFO and of the log record FIFO (R28). -/
def fifoDepth : Nat := 4

/-- The failed attempts at which a frame is dropped (R22). -/
def maxAttempts : Nat := 32

/-- The µs without a rising edge after which the chain period is "none" (R6). -/
def chainSilenceUs : Nat := 10000

/-- The µs for which a prepared release stays armed (R162). -/
def armingUs : Nat := 1000000

/-- The lower end of the range of P, in µm (R50). -/
def pMin : Int := -1000000

/-- The upper end of the range of P, in µm (R50). -/
def pMax : Int := 40000000

/-- The most entries of the comparison ring (R64). -/
def ringDepth : Nat := 4

/-- The non-wheel run at which the track is reported degraded (R67). -/
def degradedRun : Nat := 16

/-- The empty run at which the track is lost (R71). -/
def lostRun : Nat := 8

end Sys2Proof.Config
end

