-- ==== Sys2Proof/Machine/Codes.lean ====
section
/-! DEFINITION. The named states, modes, kinds and statuses of the manual, and their codes on the line (2.6). -/

namespace Sys2Proof

/-- The class number, 0 to 31 (2.6). -/
def FrameClass.number : FrameClass → Nat
  | .stopNotice => 0 | .releasePrepare => 1 | .releaseConfirm => 2 | .holdRequest => 3 | .holdGrant => 4
  | .holdRelease => 5 | .cutStart => 6 | .cutDone => 7 | .halted => 8 | .orderReject => 9 | .motion => 10
  | .roller => 11 | .gate => 12 | .diameter => 13 | .feedDemand => 14 | .feedMode => 15 | .cutCommand => 16
  | .stemOpen => 17 | .stemClose => 18 | .order => 19 | .cal => 20 | .logRecord => 21 | .faultNotice => 22
  | .clearFault => 23 | .query => 24 | .answer => 25 | .setup => 26 | .setupEnd => 27 | .announce => 28
  | .class29 => 29 | .class30 => 30 | .class31 => 31

/-- The class of a number, which is the upper five bits of a key (R19). -/
def FrameClass.ofNumber : Nat → FrameClass
  | 0 => .stopNotice | 1 => .releasePrepare | 2 => .releaseConfirm | 3 => .holdRequest | 4 => .holdGrant
  | 5 => .holdRelease | 6 => .cutStart | 7 => .cutDone | 8 => .halted | 9 => .orderReject | 10 => .motion
  | 11 => .roller | 12 => .gate | 13 => .diameter | 14 => .feedDemand | 15 => .feedMode | 16 => .cutCommand
  | 17 => .stemOpen | 18 => .stemClose | 19 => .order | 20 => .cal | 21 => .logRecord | 22 => .faultNotice
  | 23 => .clearFault | 24 => .query | 25 => .answer | 26 => .setup | 27 => .setupEnd | 28 => .announce
  | 29 => .class29 | 30 => .class30 | _ => .class31

namespace Machine

/-- The strapped role of a D226 (R170). -/
inductive Role where
  | feed | measure | knife | saw
  deriving DecidableEq, Repr

/-- The code of a strapped role (2.6). -/
def Role.code : Role → Nat
  | .feed => 0 | .measure => 1 | .knife => 2 | .saw => 3

/-- The role the straps ROLE1 and ROLE0 give: code 2 × ROLE1 + ROLE0 (R170). -/
def Role.ofStraps : Bool → Bool → Role
  | false, false => .feed | false, true => .measure | true, false => .knife | true, true => .saw

/-- The role held in a peer entry (R34). -/
inductive PeerRole where
  | unknown | cab | d226 (role : Role)
  deriving DecidableEq, Repr

/-- The code of an entry's role: UNKNOWN 255 stands in answers only (2.6). -/
def PeerRole.code : PeerRole → Nat
  | .unknown => 255 | .cab => 4 | .d226 r => r.code

/-- The role an ANNOUNCE carries, `none` outside the codes 0 to 4 (2.6, R38). -/
def PeerRole.ofCode (b : Byte) : Option PeerRole :=
  match b.toNat with
  | 0 => some (.d226 .feed) | 1 => some (.d226 .measure) | 2 => some (.d226 .knife) | 3 => some (.d226 .saw)
  | 4 => some .cab | _ => none

/-- The phase of a station (R171). -/
inductive Phase where
  | start | operating | silent
  deriving DecidableEq, Repr

def Phase.code : Phase → Nat
  | .start => 0 | .operating => 1 | .silent => 2

/-- The phase an ANNOUNCE may carry: START or OPERATING (R38). -/
def Phase.ofAnnounce (b : Byte) : Option Phase :=
  match b.toNat with
  | 0 => some .start | 1 => some .operating | _ => none

/-- The stem state (R89). -/
inductive StemState where
  | noStem | gripped | running | atMark | cutting | topped
  deriving DecidableEq, Repr

def StemState.code : StemState → Nat
  | .noStem => 0 | .gripped => 1 | .running => 2 | .atMark => 3 | .cutting => 4 | .topped => 5

def StemState.ofCode (b : Byte) : Option StemState :=
  match b.toNat with
  | 0 => some .noStem | 1 => some .gripped | 2 => some .running | 3 => some .atMark | 4 => some .cutting
  | 5 => some .topped | _ => none

/-- The cut kind (2.6). -/
inductive CutKind where
  | fell | trim | order
  deriving DecidableEq, Repr

def CutKind.code : CutKind → Nat
  | .fell => 0 | .trim => 1 | .order => 2

def CutKind.ofCode (b : Byte) : Option CutKind :=
  match b.toNat with
  | 0 => some .fell | 1 => some .trim | 2 => some .order | _ => none

/-- The outcome a HOLD RELEASE carries (2.6). -/
inductive HoldOutcome where
  | done | failed | abandoned
  deriving DecidableEq, Repr

def HoldOutcome.code : HoldOutcome → Nat
  | .done => 0 | .failed => 1 | .abandoned => 2

def HoldOutcome.ofCode (b : Byte) : Option HoldOutcome :=
  match b.toNat with
  | 0 => some .done | 1 => some .failed | 2 => some .abandoned | _ => none

/-- The reason an ORDER REJECT carries (2.6). -/
inductive RejectReason where
  | tooThin | passed
  deriving DecidableEq, Repr

def RejectReason.code : RejectReason → Nat
  | .tooThin => 0 | .passed => 1

def RejectReason.ofCode (b : Byte) : Option RejectReason :=
  match b.toNat with
  | 0 => some .tooThin | 1 => some .passed | _ => none

/-- A 0 or 1 field: offsize, contact (2.6). -/
def flagOfCode (b : Byte) : Option Bool :=
  match b.toNat with
  | 0 => some false | 1 => some true | _ => none

/-- The code of an order index: 255 is none (2.6). -/
def OrderIndex.code : OrderIndex → Nat
  | some i => i.val | none => 255

/-- The order index a byte stands for; the outer `none` is a code outside 0 to 11 and 255 (2.6). -/
def OrderIndex.ofCode (b : Byte) : Option OrderIndex :=
  if h : b.toNat < 12 then some (some ⟨b.toNat, h⟩) else if b.toNat = 255 then some none else none

/-- The feed mode (R109). -/
inductive FeedMode where
  | manual | auto
  deriving DecidableEq, Repr

def FeedMode.code : FeedMode → Nat
  | .manual => 0 | .auto => 1

def FeedMode.ofCode (b : Byte) : Option FeedMode :=
  match b.toNat with
  | 0 => some .manual | 1 => some .auto | _ => none

/-- The severity of a fault; `none` is the code NONE of an empty record (2.6). -/
inductive Severity where
  | none | notice | degrade | stop
  deriving DecidableEq, Repr

/-- The code of a severity, which also orders the severities (2.6). -/
def Severity.code : Severity → Nat
  | .none => 0 | .notice => 1 | .degrade => 2 | .stop => 3

/-- The fault kinds (2.6). -/
inductive FaultKind where
  | linkCheck | seqGap | gateImplausible | orderRefused | settingRefused | queueOverflow | stemBusy
  | commandRefused | positionDispute
  | peerLost | peerRestarted | roleConflict | txFailing | positionClamped | trackDegraded | trackLost
  | valveOverload | cutFailed
  | stopLine | remoteStop | idConflict | barNotHome | holdOrphaned
  deriving DecidableEq, Repr

def FaultKind.code : FaultKind → Nat
  | .linkCheck => 1 | .seqGap => 2 | .gateImplausible => 3 | .orderRefused => 4 | .settingRefused => 5
  | .queueOverflow => 6 | .stemBusy => 7 | .commandRefused => 8 | .positionDispute => 9 | .peerLost => 10
  | .peerRestarted => 11 | .roleConflict => 12 | .txFailing => 13 | .positionClamped => 14 | .trackDegraded => 15
  | .trackLost => 16 | .valveOverload => 17 | .cutFailed => 18 | .stopLine => 19 | .remoteStop => 20
  | .idConflict => 21 | .barNotHome => 22 | .holdOrphaned => 23

/-- The severity of each kind (10.5). -/
def FaultKind.severity : FaultKind → Severity
  | .linkCheck | .seqGap | .gateImplausible | .orderRefused | .settingRefused | .queueOverflow | .stemBusy
  | .commandRefused | .positionDispute => .notice
  | .peerLost | .peerRestarted | .roleConflict | .txFailing | .positionClamped | .trackDegraded | .trackLost
  | .valveOverload | .cutFailed => .degrade
  | .stopLine | .remoteStop | .idConflict | .barNotHome | .holdOrphaned => .stop

/-- The stop kinds a STOP NOTICE may carry are the codes 19 to 23 (2.6). -/
def stopKindOk (b : Byte) : Bool := 19 ≤ b.toNat && b.toNat ≤ 23

/-- The presence of a peer (R34). -/
inductive Presence where
  | absent | present | lost | self
  deriving DecidableEq, Repr

def Presence.code : Presence → Nat
  | .absent => 0 | .present => 1 | .lost => 2 | .self => 3

/-- The output state (R157). -/
inductive OutputState where
  | run | stopped
  deriving DecidableEq, Repr

def OutputState.code : OutputState → Nat
  | .run => 0 | .stopped => 1

/-- The hold state of the Feed Controller (R109). -/
inductive HoldState where
  | free | yielding | held
  deriving DecidableEq, Repr

def HoldState.code : HoldState → Nat
  | .free => 0 | .yielding => 1 | .held => 2

/-- The handshake state of the Saw Sequencer (R127). -/
inductive SawState where
  | idle | requested | spin | down | ret
  deriving DecidableEq, Repr

def SawState.code : SawState → Nat
  | .idle => 0 | .requested => 1 | .spin => 2 | .down => 3 | .ret => 4

/-- The last verdict of the Length Fusion Unit (R50). -/
inductive Verdict where
  | none | agree | rollerSlip | wheelOverrun | wheelOnly | lift | conflict | rollerTimeout | empty
  deriving DecidableEq, Repr

def Verdict.code : Verdict → Nat
  | .none => 0 | .agree => 1 | .rollerSlip => 2 | .wheelOverrun => 3 | .wheelOnly => 4 | .lift => 5
  | .conflict => 6 | .rollerTimeout => 7 | .empty => 8

/-- The status of an order (R103). -/
inductive OrderStatus where
  | pending | active | cut | rejected | interrupted | abandoned
  deriving DecidableEq, Repr

def OrderStatus.code : OrderStatus → Nat
  | .pending => 1 | .active => 2 | .cut => 3 | .rejected => 4 | .interrupted => 5 | .abandoned => 6

/-- The progress of a handshake view (R89). -/
inductive Progress where
  | requested | started | done
  deriving DecidableEq, Repr

/-- The approach stage of the Feed Controller (R109). -/
inductive ApproachStage where
  | approach | settle | correct | wait
  deriving DecidableEq, Repr

/-- The correction direction of the Feed Controller (R109). -/
inductive Direction where
  | forward | reverse
  deriving DecidableEq, Repr

/-- The mode of a capture channel (R1). -/
inductive CapMode where
  | quadrature | period | off
  deriving DecidableEq, Repr

/-- The mode the role gives each capture channel (R1). -/
def CapMode.ofRole : Role → Fin 3 → CapMode
  | .feed, 0 => .quadrature | .feed, 1 => .quadrature | .feed, 2 => .off
  | .measure, 0 => .off | .measure, 1 => .off | .measure, 2 => .quadrature
  | .knife, _ => .off
  | .saw, 0 => .off | .saw, 1 => .off | .saw, 2 => .period

/-- A side of a valve channel (R145). -/
inductive Side where
  | a | b
  deriving DecidableEq, Repr

def Side.other : Side → Side
  | .a => .b | .b => .a

/-- The transmit sources (R28). -/
inductive TxSource where
  | stop | handshake | motion | roller | gate | diameter | fault | log | answer | announce
  deriving DecidableEq, Repr

/-- The query items (2.6). -/
inductive QueryItem where
  | station | track | fault | peer | order | cal | link
  deriving DecidableEq, Repr

def QueryItem.code : QueryItem → Nat
  | .station => 1 | .track => 2 | .fault => 3 | .peer => 4 | .order => 5 | .cal => 6 | .link => 7

end Machine

end Sys2Proof
end

