-- ==== Sys2Proof/Machine/Frames.lean ====
section
/-! DEFINITION. The frames of the Head Link: what a station sends, the payload layouts of 2.6, the key, the check word
and the bits on the line (R18 to R20), and the command an observed frame is. -/

namespace Sys2Proof.Machine

/-- The fields of the fault record (R164, R165). The record is empty exactly when its severity is NONE. -/
structure FaultRecord where
  severity : Severity
  kind : Option FaultKind
  serial : Half
  orderIndex : Nat
  p : Int
  causeClass : Option FrameClass
  causeSender : Option Ident
  laterCount : Nat
  deriving DecidableEq, Repr

/-- The fields of a log record (R107). -/
structure LogRecord where
  serial : Half
  logNumber : Nat
  kind : CutKind
  index : OrderIndex
  lengthMm : Nat
  offsize : Bool
  dispute : Bool
  gateUsed : Bool
  nonWheel : Nat
  butt : Nat
  mid : Nat
  top : Nat
  deriving DecidableEq, Repr

/-- A frame a D226 sends, with its content fixed at placement (R28). -/
inductive Frame where
  | stopNotice (kind : FaultKind) (serial : Half)
  | holdRequest (serial : Half) (kind : CutKind) (index : OrderIndex)
  | holdGrant (serial : Half) (kind : CutKind) (index : OrderIndex)
  | holdRelease (serial : Half) (kind : CutKind) (index : OrderIndex) (outcome : HoldOutcome)
  | cutStart (serial : Half) (kind : CutKind) (index : OrderIndex) (attempt : Nat)
  | cutDone (serial : Half) (kind : CutKind) (index : OrderIndex) (p : Int)
  | halted (serial : Half) (index : OrderIndex) (p : Int) (offsize : Bool)
  | orderReject (serial : Half) (index : OrderIndex) (reason : RejectReason)
  | motion (seq : Byte) (total : Word) (contact : Bool)
  | roller (seq : Byte) (left right : Word)
  | gate (seq : Byte) (total : Word)
  | diameter (mm : Nat)
  | logRecord (record : LogRecord)
  | faultNotice (record : FaultRecord) (previous : Severity)
  | answer (item : QueryItem) (index : Byte) (content : List Byte)
  | announce (role : Role) (phase : Phase) (stem : StemState)
  deriving DecidableEq, Repr

/-- The class of a frame (2.6). -/
def Frame.cls : Frame → FrameClass
  | .stopNotice _ _ => .stopNotice
  | .holdRequest _ _ _ => .holdRequest
  | .holdGrant _ _ _ => .holdGrant
  | .holdRelease _ _ _ _ => .holdRelease
  | .cutStart _ _ _ _ => .cutStart
  | .cutDone _ _ _ _ => .cutDone
  | .halted _ _ _ _ => .halted
  | .orderReject _ _ _ => .orderReject
  | .motion _ _ _ => .motion
  | .roller _ _ _ => .roller
  | .gate _ _ => .gate
  | .diameter _ => .diameter
  | .logRecord _ => .logRecord
  | .faultNotice _ _ => .faultNotice
  | .answer _ _ _ => .answer
  | .announce _ _ _ => .announce

/-- A frame as it stands on the line: class and sender of its key, and its payload bytes (R19). -/
structure RawFrame where
  cls : FrameClass
  sender : Ident
  payload : List Byte
  deriving DecidableEq, Repr

/-! ### Bytes of payload fields: least significant byte first (R19) -/

/-- A one-byte field. -/
def byteOf (n : Nat) : Byte := BitVec.ofNat 8 n

/-- A two-byte field, least significant byte first. -/
def le16 (h : Half) : List Byte := [h.setWidth 8, (h >>> 8).setWidth 8]

/-- A four-byte field, least significant byte first. -/
def le32 (w : Word) : List Byte := [w.setWidth 8, (w >>> 8).setWidth 8, (w >>> 16).setWidth 8, (w >>> 24).setWidth 8]

/-- A two-byte field read back. -/
def ofLe16 (b0 b1 : Byte) : Half := b1 ++ b0

/-- A four-byte field read back. -/
def ofLe32 (b0 b1 b2 b3 : Byte) : Word := (b3 ++ b2) ++ (b1 ++ b0)

/-- A 0 or 1 field. -/
def flagByte (b : Bool) : Byte := if b then 1 else 0

/-- The layouts of 2.6 that several classes share: stem serial, cut kind, order index. -/
def cutBytes (serial : Half) (kind index : Byte) : List Byte := le16 serial ++ [kind, index]

/-- The bytes of the log record flags: bit 0 OFFSIZE, bit 1 DISPUTE, bit 2 GATE USED (2.6). -/
def LogRecord.flags (r : LogRecord) : Nat :=
  (if r.offsize then 1 else 0) + (if r.dispute then 2 else 0) + (if r.gateUsed then 4 else 0)

/-- The cause class field: 255 is none (2.6). -/
def causeClassByte : Option FrameClass → Byte
  | some c => byteOf c.number | none => 255

/-- The cause sender field: 255 is none (2.6). -/
def causeSenderByte : Option Ident → Byte
  | some i => byteOf i.val | none => 255

/-- The fields of a FAULT NOTICE, which are also those of the FAULT answer from its offset 1 on (2.6). -/
def faultBytes (r : FaultRecord) (previous : Severity) : List Byte :=
  [byteOf r.severity.code, byteOf (match r.kind with | some k => k.code | none => 0)] ++ le16 r.serial ++
  [byteOf r.orderIndex] ++ le32 (BitVec.ofInt 32 r.p) ++
  [causeClassByte r.causeClass, causeSenderByte r.causeSender, byteOf r.laterCount, byteOf previous.code]

/-- The payload of a frame the station sends (2.6). -/
def Frame.payload : Frame → List Byte
  | .stopNotice k serial => [byteOf k.code] ++ le16 serial
  | .holdRequest serial k i => cutBytes serial (byteOf k.code) (byteOf (OrderIndex.code i))
  | .holdGrant serial k i => cutBytes serial (byteOf k.code) (byteOf (OrderIndex.code i))
  | .holdRelease serial k i o => cutBytes serial (byteOf k.code) (byteOf (OrderIndex.code i)) ++ [byteOf o.code]
  | .cutStart serial k i n => cutBytes serial (byteOf k.code) (byteOf (OrderIndex.code i)) ++ [byteOf n]
  | .cutDone serial k i p =>
    cutBytes serial (byteOf k.code) (byteOf (OrderIndex.code i)) ++ le32 (BitVec.ofInt 32 p)
  | .halted serial i p o =>
    le16 serial ++ [byteOf (OrderIndex.code i)] ++ le32 (BitVec.ofInt 32 p) ++ [flagByte o]
  | .orderReject serial i r => le16 serial ++ [byteOf (OrderIndex.code i), byteOf r.code]
  | .motion seq total contact => [seq] ++ le32 total ++ [flagByte contact]
  | .roller seq left right => [seq] ++ le32 left ++ le32 right
  | .gate seq total => [seq] ++ le32 total
  | .diameter mm => le16 (BitVec.ofNat 16 mm)
  | .logRecord r =>
    le16 r.serial ++ [byteOf r.logNumber, byteOf r.kind.code, byteOf (OrderIndex.code r.index)] ++
    le16 (BitVec.ofNat 16 r.lengthMm) ++ [byteOf r.flags, byteOf r.nonWheel] ++
    le16 (BitVec.ofNat 16 r.butt) ++ le16 (BitVec.ofNat 16 r.mid) ++ le16 (BitVec.ofNat 16 r.top)
  | .faultNotice r previous => faultBytes r previous
  | .answer item index content => [byteOf item.code, index] ++ content
  | .announce role phase stem =>
    [byteOf role.code, byteOf phase.code, byteOf stem.code, byteOf Config.revision]

/-- The frame as the station with identity `id` puts it on the line. -/
def Frame.raw (f : Frame) (id : Ident) : RawFrame := ⟨f.cls, id, f.payload⟩

/-- The payload length the class requires (R19, 2.6). -/
def lengthOk (c : FrameClass) (n : Nat) : Bool :=
  match c with
  | .stopNotice => n == 3 | .releasePrepare => n == 0 | .releaseConfirm => n == 0 | .holdRequest => n == 4
  | .holdGrant => n == 4 | .holdRelease => n == 5 | .cutStart => n == 5 | .cutDone => n == 8 | .halted => n == 8
  | .orderReject => n == 4 | .motion => n == 6 | .roller => n == 9 | .gate => n == 5 | .diameter => n == 2
  | .feedDemand => n == 2 | .feedMode => n == 1 | .cutCommand => n == 3 | .stemOpen => n == 2 | .stemClose => n == 2
  | .order => n == 10 | .cal => n == 4 | .logRecord => n == 15 | .faultNotice => n == 13 | .clearFault => n == 1
  | .query => n == 3 | .answer => 2 ≤ n && n ≤ 16 | .setup => n == 6 | .setupEnd => n == 0 | .announce => n == 4
  | .class29 | .class30 | .class31 => n ≤ 16

/-! ### The check word and the bits on the line (R18 to R20) -/

/-- One bit of the cyclic redundancy check with generator polynomial 0x1021 (R20). -/
def crcBit (reg : Half) (bit : Bool) : Half :=
  if reg.msb == bit then reg <<< 1 else (reg <<< 1) ^^^ 0x1021

/-- The check word over a run of bits: the register starts at 0xFFFF and is not inverted (R20). -/
def checkWord (bits : List Bool) : Half := bits.foldl crcBit 0xFFFF

/-- The bits of a byte, most significant first (R19). -/
def bitsOfByte (b : Byte) : List Bool := (List.range 8).map fun i => b.getMsbD i

/-- The bits of a check word, most significant first (R19). -/
def bitsOfHalf (h : Half) : List Bool := (List.range 16).map fun i => h.getMsbD i

/-- A number read most significant bit first. -/
def natOfBits (bits : List Bool) : Nat := bits.foldl (fun n b => 2 * n + b.toNat) 0

/-- The key: eight times the class plus the sender (R19). -/
def RawFrame.key (f : RawFrame) : Byte := byteOf (8 * f.cls.number + f.sender.val)

/-- Key, length and payload: what the check word is run over (R20). -/
def RawFrame.head (f : RawFrame) : List Bool :=
  (f.key :: byteOf f.payload.length :: f.payload).flatMap bitsOfByte

/-- Data bits as they are driven, with a stuff bit of the other level after every five consecutive bits of one level,
stuff bits counted in the run (R18). `last` and `run` are the level last driven and how often in a row. A 0 is
dominant and a 1 recessive; `false` stands for dominant. -/
def stuff (last : Bool) (run : Nat) : List Bool → List Bool
  | [] => if run = 5 then [!last] else []
  | d :: ds =>
    if run = 5 then (!last) :: d :: stuff d (if d = !last then 2 else 1) ds
    else d :: stuff d (if d = last then run + 1 else 1) ds

/-- The bits of a frame on the line: the dominant start delimiter, the stuffed key, length, payload and check word, and
the end delimiter of seven recessive bits (R19). -/
def RawFrame.wire (f : RawFrame) : List Bool :=
  false :: stuff false 1 (f.head ++ bitsOfHalf (checkWord f.head)) ++ List.replicate 7 true

/-- Where a receiver stands within the stuffed part of a frame: the level last read, how often in a row, and the bits
still to come. -/
structure RxState where
  last : Bool
  run : Nat
  rest : List Bool
  deriving DecidableEq, Repr

/-- Removes the stuff bit that is due after five bits of one level; a sixth bit of that level breaks the frame off
(R18, R19). -/
def RxState.unstuff (r : RxState) : Except CheckFailure RxState :=
  if r.run = 5 then
    match r.rest with
    | [] => .error .brokenOff
    | b :: bs => if b = r.last then .error .brokenOff else .ok ⟨b, 1, bs⟩
  else .ok r

/-- Reads `n` data bits. -/
def RxState.take : Nat → RxState → Except CheckFailure (List Bool × RxState)
  | 0, r => .ok ([], r)
  | n + 1, r =>
    match r.unstuff with
    | .error e => .error e
    | .ok r =>
      match r.rest with
      | [] => .error .brokenOff
      | b :: bs =>
        match RxState.take n ⟨b, if b = r.last then r.run + 1 else 1, bs⟩ with
        | .error e => .error e
        | .ok (ds, r') => .ok (b :: ds, r')

/-- Reads `n` bytes. -/
def RxState.takeBytes : Nat → RxState → Except CheckFailure (List Byte × RxState)
  | 0, r => .ok ([], r)
  | n + 1, r =>
    match r.take 8 with
    | .error e => .error e
    | .ok (ds, r) =>
      match RxState.takeBytes n r with
      | .error e => .error e
      | .ok (bs, r') => .ok (byteOf (natOfBits ds) :: bs, r')

/-- The end delimiter: seven recessive bits (R19). -/
def endDelimiterOk (bits : List Bool) : Bool := (bits.take 7 == List.replicate 7 true)

/-- The class and sender a key byte holds (R19). -/
def classOfKey (key : Byte) : FrameClass := FrameClass.ofNumber (key.toNat / 8)

/-- The sender a key byte holds (R19). -/
def senderOfKey (key : Byte) : Ident := ⟨key.toNat % 8, Nat.mod_lt _ (by decide)⟩

/-- What a receiver makes of the bits from the start delimiter on: the frame, or why it fails its check (R19, R20). -/
def receiveBits (bits : List Bool) : Except CheckFailure RawFrame :=
  match bits with
  | [] => .error .brokenOff
  | start :: rest =>
    if start then .error .brokenOff else
    match RxState.takeBytes 2 ⟨false, 1, rest⟩ with
    | .error e => .error e
    | .ok (header, r) =>
      let key := header.getD 0 0
      let len := (header.getD 1 0).toNat
      if 16 < len then .error .lengthAbove16 else
      match RxState.takeBytes len r with
      | .error e => .error e
      | .ok (payload, r) =>
        match r.take 16 with
        | .error e => .error e
        | .ok (check, r) =>
          match r.unstuff with
          | .error e => .error e
          | .ok r =>
            let f : RawFrame := ⟨classOfKey key, senderOfKey key, payload⟩
            if !endDelimiterOk r.rest then .error .endDelimiter
            else if !lengthOk f.cls len then .error .lengthForClass
            else if checkWord f.head ≠ BitVec.ofNat 16 (natOfBits check) then .error .checkWord
            else .ok f

/-! ### The command an observed frame is -/

/-- The command of the table that the observation of a frame at `t` is: each field taken from its offset (2.6). A CAL
with a field code outside the table and a QUERY with an item outside 1 to 7 are frames no block acts on (R24, R168). -/
def RawFrame.command (t : Nat) (f : RawFrame) : Instr :=
  match f.cls, f.payload with
  | .stopNotice, [k, s0, s1] => .stopNotice t f.sender k (ofLe16 s0 s1)
  | .releasePrepare, [] => .releasePrepare t f.sender
  | .releaseConfirm, [] => .releaseConfirm t f.sender
  | .holdRequest, [s0, s1, k, i] => .holdRequest t f.sender (ofLe16 s0 s1) k i
  | .holdGrant, [s0, s1, k, i] => .holdGrant t f.sender (ofLe16 s0 s1) k i
  | .holdRelease, [s0, s1, k, i, o] => .holdRelease t f.sender (ofLe16 s0 s1) k i o
  | .cutStart, [s0, s1, k, i, n] => .cutStart t f.sender (ofLe16 s0 s1) k i n
  | .cutDone, [s0, s1, k, i, p0, p1, p2, p3] => .cutDone t f.sender (ofLe16 s0 s1) k i (ofLe32 p0 p1 p2 p3)
  | .halted, [s0, s1, i, p0, p1, p2, p3, o] => .halted t f.sender (ofLe16 s0 s1) i (ofLe32 p0 p1 p2 p3) o
  | .orderReject, [s0, s1, i, r] => .orderReject t f.sender (ofLe16 s0 s1) i r
  | .motion, [q, w0, w1, w2, w3, c] => .motion t f.sender q (ofLe32 w0 w1 w2 w3) c
  | .roller, [q, l0, l1, l2, l3, r0, r1, r2, r3] =>
    .roller t f.sender q (ofLe32 l0 l1 l2 l3) (ofLe32 r0 r1 r2 r3)
  | .gate, [q, w0, w1, w2, w3] => .gate t f.sender q (ofLe32 w0 w1 w2 w3)
  | .diameter, [d0, d1] => .diameter t f.sender (ofLe16 d0 d1)
  | .feedDemand, [d0, d1] => .feedDemand t f.sender (ofLe16 d0 d1)
  | .feedMode, [m] => .feedMode t f.sender m
  | .cutCommand, [s0, s1, k] => .cutCommand t f.sender (ofLe16 s0 s1) k
  | .stemOpen, [s0, s1] => .stemOpen t f.sender (ofLe16 s0 s1)
  | .stemClose, [s0, s1] => .stemClose t f.sender (ofLe16 s0 s1)
  | .order, [s0, s1, i, g0, g1, tm, tp, m0, m1, q] =>
    .order t f.sender (ofLe16 s0 s1) i (ofLe16 g0 g1) tm tp (ofLe16 m0 m1) q
  | .cal, [e, k, v0, v1] =>
    if k = 0 then .calValue t f.sender e (ofLe16 v0 v1)
    else if k = 1 then .calKey t f.sender e (ofLe16 v0 v1)
    else .otherFrameObserved t f.sender .cal [e, k, v0, v1]
  | .clearFault, [a] => .clearFault t f.sender a
  | .query, [a, item, i] =>
    match item.toNat with
    | 1 => .queryStation t f.sender a i
    | 2 => .queryTrack t f.sender a i
    | 3 => .queryFault t f.sender a i
    | 4 => .queryPeer t f.sender a i
    | 5 => .queryOrder t f.sender a i
    | 6 => .queryCal t f.sender a i
    | 7 => .queryLink t f.sender a i
    | _ => .otherFrameObserved t f.sender .query [a, item, i]
  | .setup, [a, item, v0, v1, v2, v3] => .setup t f.sender a item (ofLe32 v0 v1 v2 v3)
  | .setupEnd, [] => .setupEnd t f.sender
  | .announce, [r, p, m, v] => .announce t f.sender r p m v
  | c, payload => .otherFrameObserved t f.sender c payload

/-- The command that a run of received bits is at `t`: the observation of the frame, or a failed check (R20, R23). -/
def lineCommand (t : Nat) (bits : List Bool) : Instr :=
  match receiveBits bits with
  | .ok f => f.command t
  | .error why => .linkCheckFail t why

/-- The frame that a command stands for the observation of, `none` for a command that is no observation (2.6). -/
def observedFrame : Instr → Option RawFrame
  | .announce _ s role phase stem revision => some ⟨.announce, s, [role, phase, stem, revision]⟩
  | .motion _ s q w c => some ⟨.motion, s, [q] ++ le32 w ++ [c]⟩
  | .roller _ s q l r => some ⟨.roller, s, [q] ++ le32 l ++ le32 r⟩
  | .gate _ s q w => some ⟨.gate, s, [q] ++ le32 w⟩
  | .diameter _ s d => some ⟨.diameter, s, le16 d⟩
  | .stopNotice _ s k n => some ⟨.stopNotice, s, [k] ++ le16 n⟩
  | .releasePrepare _ s => some ⟨.releasePrepare, s, []⟩
  | .releaseConfirm _ s => some ⟨.releaseConfirm, s, []⟩
  | .holdRequest _ s n k i => some ⟨.holdRequest, s, cutBytes n k i⟩
  | .holdGrant _ s n k i => some ⟨.holdGrant, s, cutBytes n k i⟩
  | .holdRelease _ s n k i o => some ⟨.holdRelease, s, cutBytes n k i ++ [o]⟩
  | .cutStart _ s n k i a => some ⟨.cutStart, s, cutBytes n k i ++ [a]⟩
  | .cutDone _ s n k i p => some ⟨.cutDone, s, cutBytes n k i ++ le32 p⟩
  | .halted _ s n i p o => some ⟨.halted, s, le16 n ++ [i] ++ le32 p ++ [o]⟩
  | .orderReject _ s n i r => some ⟨.orderReject, s, le16 n ++ [i, r]⟩
  | .feedDemand _ s d => some ⟨.feedDemand, s, le16 d⟩
  | .feedMode _ s m => some ⟨.feedMode, s, [m]⟩
  | .cutCommand _ s n k => some ⟨.cutCommand, s, le16 n ++ [k]⟩
  | .stemOpen _ s n => some ⟨.stemOpen, s, le16 n⟩
  | .stemClose _ s n => some ⟨.stemClose, s, le16 n⟩
  | .order _ s n i g tm tp m q => some ⟨.order, s, le16 n ++ [i] ++ le16 g ++ [tm, tp] ++ le16 m ++ [q]⟩
  | .calValue _ s e v => some ⟨.cal, s, [e, 0] ++ le16 v⟩
  | .calKey _ s e v => some ⟨.cal, s, [e, 1] ++ le16 v⟩
  | .clearFault _ s a => some ⟨.clearFault, s, [a]⟩
  | .queryStation _ s a i => some ⟨.query, s, [a, 1, i]⟩
  | .queryTrack _ s a i => some ⟨.query, s, [a, 2, i]⟩
  | .queryFault _ s a i => some ⟨.query, s, [a, 3, i]⟩
  | .queryPeer _ s a i => some ⟨.query, s, [a, 4, i]⟩
  | .queryOrder _ s a i => some ⟨.query, s, [a, 5, i]⟩
  | .queryCal _ s a i => some ⟨.query, s, [a, 6, i]⟩
  | .queryLink _ s a i => some ⟨.query, s, [a, 7, i]⟩
  | .setup _ s a item v => some ⟨.setup, s, [a, item] ++ le32 v⟩
  | .setupEnd _ s => some ⟨.setupEnd, s, []⟩
  | .otherFrameObserved _ s c payload => some ⟨c, s, payload⟩
  | .reset _ | .quadratureTransition _ _ _ _ | .chainRisingEdge _ | .chainPeriodExpiry _ | .gateBlockEdge _
  | .gateClearEdge _ | .stopLineAssertion _ | .stopLineInactive _ | .sampleInstant _ _ _ _ _
  | .pwmPeriodBoundary _ _ _ _ _ | .lineIdle _ | .arbitrationLost _ | .frameDisturbed _ | .transmitComplete _
  | .linkCheckFail _ _ | .keepAliveExpiry _ | .peerSilenceTimeout _ _ | .diameterAged _ _ | .closingTimerExpiry _
  | .releaseArmingExpiry _ | .manualExpiry _ | .grantTimerExpiry _ | .chainTimerExpiry _ | .cutTimerExpiry _
  | .returnTimerExpiry _ | .knifeOpenTimerExpiry _ | .wheelLiftTimerExpiry _ => none

end Sys2Proof.Machine
end

