-- ==== Sys2Proof/Machine/Settings.lean ====
section
/-! DEFINITION. The settings of R176: one named field per item, the default each takes at reset, the range of each, and
what a SETUP stores (R173). -/

namespace Sys2Proof.Machine

/-- The 43 settings, each with its item number and unit (R176). -/
structure Settings where
  /-- item 1: sample period T_s, ms -/
  samplePeriod : Nat
  /-- item 2: silence timeout, ms -/
  silenceTimeout : Nat
  /-- item 3: wheel scale S_w, µm/count -/
  wheelScale : Nat
  /-- item 4: roller scale S_r, µm/count -/
  rollerScale : Nat
  /-- item 5: slip allowance A, µm -/
  slipAllowance : Nat
  /-- item 6: slip proportion Pm, ‰ -/
  slipProportion : Nat
  /-- item 7: gate offset G_off, mm -/
  gateOffset : Nat
  /-- item 8: gate window, mm -/
  gateWindow : Nat
  /-- item 9: top diameter, mm -/
  topDiameter : Nat
  /-- item 10: top travel, mm -/
  topTravel : Nat
  /-- item 11: diameter zero d0, mm -/
  diameterZero : Nat
  /-- item 12: diameter span, mm -/
  diameterSpan : Nat
  /-- item 13: contact threshold, raw -/
  contactThreshold : Nat
  /-- item 14: brake distance, mm -/
  brakeDistance : Nat
  /-- item 15: halt window, mm -/
  haltWindow : Nat
  /-- item 16: full duty, ‰ -/
  fullDuty : Nat
  /-- item 17: creep duty, ‰ -/
  creepDuty : Nat
  /-- item 18: halt attempts, count -/
  haltAttempts : Nat
  /-- item 19: reverse limit, mm -/
  reverseLimit : Nat
  /-- item 20: manual expiry, ms -/
  manualExpiry : Nat
  /-- item 21: grant timeout, ms -/
  grantTimeout : Nat
  /-- item 22: chain period threshold, µs -/
  chainThreshold : Nat
  /-- item 23: chain timeout, ms -/
  chainTimeout : Nat
  /-- item 24: cut timeout, ms -/
  cutTimeout : Nat
  /-- item 25: return timeout, ms -/
  returnTimeout : Nat
  /-- item 26: cut retries, count -/
  cutRetries : Nat
  /-- item 27: bar end threshold, raw -/
  barEndThreshold : Nat
  /-- item 28: bar home threshold, raw -/
  barHomeThreshold : Nat
  /-- item 29: PWM period, ms -/
  pwmPeriod : Nat
  /-- item 30: dead interval, ms -/
  deadInterval : Nat
  /-- item 31: overload limit, mA -/
  overloadLimit : Nat
  /-- item 32: overload count N, count -/
  overloadCount : Nat
  /-- item 33: knife base, ‰ -/
  knifeBase : Nat
  /-- item 34: knife slope, ‰ per 100 mm -/
  knifeSlope : Nat
  /-- item 35: knife grip duty, ‰ -/
  knifeGripDuty : Nat
  /-- item 36: knife open time, ms -/
  knifeOpenTime : Nat
  /-- item 37: roller grip duty, ‰ -/
  rollerGripDuty : Nat
  /-- item 38: wheel press duty, ‰ -/
  wheelPressDuty : Nat
  /-- item 39: wheel lift duty, ‰ -/
  wheelLiftDuty : Nat
  /-- item 40: wheel lift time, ms -/
  wheelLiftTime : Nat
  /-- item 41: bar duty (down and up), ‰ -/
  barDuty : Nat
  /-- item 42: chain duty, ‰ -/
  chainDuty : Nat
  /-- item 43: dispute margin, mm -/
  disputeMargin : Nat
  deriving DecidableEq, Repr

/-- The value of every setting after reset (R176). -/
def Settings.defaults : Settings where
  samplePeriod := 5
  silenceTimeout := 60
  wheelScale := 614
  rollerScale := 2000
  slipAllowance := 3000
  slipProportion := 20
  gateOffset := 150
  gateWindow := 40
  topDiameter := 60
  topTravel := 200
  diameterZero := 40
  diameterSpan := 600
  contactThreshold := 1200
  brakeDistance := 400
  haltWindow := 15
  fullDuty := 1000
  creepDuty := 250
  haltAttempts := 2
  reverseLimit := 300
  manualExpiry := 300
  grantTimeout := 400
  chainThreshold := 400
  chainTimeout := 500
  cutTimeout := 2000
  returnTimeout := 1500
  cutRetries := 1
  barEndThreshold := 3600
  barHomeThreshold := 400
  pwmPeriod := 2
  deadInterval := 10
  overloadLimit := 2500
  overloadCount := 4
  knifeBase := 300
  knifeSlope := 120
  knifeGripDuty := 500
  knifeOpenTime := 600
  rollerGripDuty := 700
  wheelPressDuty := 400
  wheelLiftDuty := 600
  wheelLiftTime := 500
  barDuty := 800
  chainDuty := 1000
  disputeMargin := 20

/-- The range of an item, both ends included; `none` for an item that names no setting (R173, R176). -/
def Settings.range : Nat → Option (Nat × Nat)
  | 1 => some (2, 20) | 2 => some (20, 500) | 3 => some (50, 5000) | 4 => some (50, 5000)
  | 5 => some (0, 20000) | 6 => some (0, 100) | 7 => some (0, 500) | 8 => some (0, 100) | 9 => some (30, 150)
  | 10 => some (50, 1000) | 11 => some (0, 200) | 12 => some (100, 900) | 13 => some (0, 4095)
  | 14 => some (50, 2000) | 15 => some (0, 50) | 16 => some (0, 1000) | 17 => some (50, 600)
  | 18 => some (0, 3) | 19 => some (0, 1000) | 20 => some (100, 2000) | 21 => some (50, 1000)
  | 22 => some (50, 5000) | 23 => some (100, 2000) | 24 => some (500, 5000) | 25 => some (500, 5000)
  | 26 => some (0, 3) | 27 => some (0, 4095) | 28 => some (0, 4095) | 29 => some (1, 10) | 30 => some (0, 50)
  | 31 => some (100, 4000) | 32 => some (1, 15) | 33 => some (0, 1000) | 34 => some (0, 500)
  | 35 => some (0, 1000) | 36 => some (100, 2000) | 37 => some (0, 1000) | 38 => some (0, 1000)
  | 39 => some (0, 1000) | 40 => some (100, 2000) | 41 => some (0, 1000) | 42 => some (0, 1000)
  | 43 => some (0, 100)
  | _ => none

/-- The setting an item names, as it stands (R176). -/
def Settings.get (σ : Settings) : Nat → Option Nat
  | 1 => some σ.samplePeriod | 2 => some σ.silenceTimeout | 3 => some σ.wheelScale | 4 => some σ.rollerScale
  | 5 => some σ.slipAllowance | 6 => some σ.slipProportion | 7 => some σ.gateOffset | 8 => some σ.gateWindow
  | 9 => some σ.topDiameter | 10 => some σ.topTravel | 11 => some σ.diameterZero | 12 => some σ.diameterSpan
  | 13 => some σ.contactThreshold | 14 => some σ.brakeDistance | 15 => some σ.haltWindow
  | 16 => some σ.fullDuty | 17 => some σ.creepDuty | 18 => some σ.haltAttempts | 19 => some σ.reverseLimit
  | 20 => some σ.manualExpiry | 21 => some σ.grantTimeout | 22 => some σ.chainThreshold
  | 23 => some σ.chainTimeout | 24 => some σ.cutTimeout | 25 => some σ.returnTimeout | 26 => some σ.cutRetries
  | 27 => some σ.barEndThreshold | 28 => some σ.barHomeThreshold | 29 => some σ.pwmPeriod
  | 30 => some σ.deadInterval | 31 => some σ.overloadLimit | 32 => some σ.overloadCount
  | 33 => some σ.knifeBase | 34 => some σ.knifeSlope | 35 => some σ.knifeGripDuty | 36 => some σ.knifeOpenTime
  | 37 => some σ.rollerGripDuty | 38 => some σ.wheelPressDuty | 39 => some σ.wheelLiftDuty
  | 40 => some σ.wheelLiftTime | 41 => some σ.barDuty | 42 => some σ.chainDuty | 43 => some σ.disputeMargin
  | _ => none

/-- The settings with the one an item names replaced; an item that names none changes nothing (R176). -/
def Settings.set (σ : Settings) (item v : Nat) : Settings :=
  match item with
  | 1 => { σ with samplePeriod := v } | 2 => { σ with silenceTimeout := v } | 3 => { σ with wheelScale := v }
  | 4 => { σ with rollerScale := v } | 5 => { σ with slipAllowance := v } | 6 => { σ with slipProportion := v }
  | 7 => { σ with gateOffset := v } | 8 => { σ with gateWindow := v } | 9 => { σ with topDiameter := v }
  | 10 => { σ with topTravel := v } | 11 => { σ with diameterZero := v } | 12 => { σ with diameterSpan := v }
  | 13 => { σ with contactThreshold := v } | 14 => { σ with brakeDistance := v }
  | 15 => { σ with haltWindow := v } | 16 => { σ with fullDuty := v } | 17 => { σ with creepDuty := v }
  | 18 => { σ with haltAttempts := v } | 19 => { σ with reverseLimit := v }
  | 20 => { σ with manualExpiry := v } | 21 => { σ with grantTimeout := v }
  | 22 => { σ with chainThreshold := v } | 23 => { σ with chainTimeout := v }
  | 24 => { σ with cutTimeout := v } | 25 => { σ with returnTimeout := v } | 26 => { σ with cutRetries := v }
  | 27 => { σ with barEndThreshold := v } | 28 => { σ with barHomeThreshold := v }
  | 29 => { σ with pwmPeriod := v } | 30 => { σ with deadInterval := v } | 31 => { σ with overloadLimit := v }
  | 32 => { σ with overloadCount := v } | 33 => { σ with knifeBase := v } | 34 => { σ with knifeSlope := v }
  | 35 => { σ with knifeGripDuty := v } | 36 => { σ with knifeOpenTime := v }
  | 37 => { σ with rollerGripDuty := v } | 38 => { σ with wheelPressDuty := v }
  | 39 => { σ with wheelLiftDuty := v } | 40 => { σ with wheelLiftTime := v } | 41 => { σ with barDuty := v }
  | 42 => { σ with chainDuty := v } | 43 => { σ with disputeMargin := v }
  | _ => σ

/-- A value held to a range: the nearer end replaces a value beyond it (R173). -/
def clampNat (lo hi v : Nat) : Nat := max lo (min hi v)

/-- The settings after a SETUP of this item and value is taken in START; `none` where the item is refused (R173). -/
def Settings.put (σ : Settings) (item v : Nat) : Option Settings :=
  match Settings.range item with
  | none => none
  | some (lo, hi) => some (σ.set item (clampNat lo hi v))

end Sys2Proof.Machine
end

