-- ==== Sys2Proof/Machine/State.lean ====
section
/-! DEFINITION. The state of one D226, block by block as the manual lays it out, the faults and refusals of the model,
and the machine right after reset. Plain data throughout. Timers are held as the moment at which they expire, `none`
when stopped (notes/assumptions/2.md). -/

namespace Sys2Proof.Machine

/-! ### Capture Unit (1.9) -/

/-- One capture channel (R1): its mode, its reference pair (which QUADRATURE alone reads; notes/assumptions/21.md), its
cumulative total, the time of its last rising edge and its chain period in µs. -/
structure CapChannel where
  mode : CapMode
  pair : Bool × Bool
  total : Word
  lastEdge : Option Nat
  period : Option Nat
  deriving DecidableEq, Repr

/-- The Capture Unit. The publication slots are transmit sources and stand in `Link`. -/
structure Capture where
  cap0 : CapChannel
  cap1 : CapChannel
  cap2 : CapChannel
  ownDiameter : Nat
  contact : Bool
  barHome : Bool
  barEnd : Bool
  gateBlocked : Bool
  motionSeq : Byte
  rollerSeq : Byte
  gateSeq : Byte
  sampleTimer : Option Nat
  deriving DecidableEq, Repr

/-! ### Link Controller (2.8) -/

/-- A frame in a transmit source with its failed-attempt count (R22). -/
structure TxFrame where
  frame : Frame
  attempts : Nat
  deriving DecidableEq, Repr

/-- The Link Controller: the transmit sources of R28, the repeat mark (R33), the keep-alive timer (R32), the two counts
of the LINK item, the line as the station sees it, the station's frame on the line with the source it came from, and
the own frame that has just completed and is about to be observed (R23, notes/assumptions/3.md). -/
structure Link where
  stopSlot : Option TxFrame
  handshake : List TxFrame
  motionSlot : Option TxFrame
  rollerSlot : Option TxFrame
  gateSlot : Option TxFrame
  diameterSlot : Option TxFrame
  faultSlot : Option TxFrame
  logFifo : List TxFrame
  answerSlot : Option TxFrame
  announceSlot : Option TxFrame
  repeatMark : Bool
  keepAlive : Option Nat
  checkFailures : Nat
  txFailures : Nat
  lineIdle : Bool
  onLine : Option (TxSource × TxFrame)
  ownCompleted : Option RawFrame
  deriving DecidableEq, Repr

/-! ### Peer Table (R34) -/

/-- One entry of the Peer Table. A sequence number that is not known is `none` (it answers as 0). `timeout` is the
silence timeout in ms in force when `lastHeard` was set (R37). -/
structure Peer where
  presence : Presence
  role : PeerRole
  phase : Phase
  stem : StemState
  lastHeard : Option Nat
  timeout : Nat
  motionSeq : Option Byte
  rollerSeq : Option Byte
  gateSeq : Option Byte
  wheelTotal : Word
  leftTotal : Word
  rightTotal : Word
  baselinePending : Bool
  gapCount : Nat
  conflict : Bool
  deriving DecidableEq, Repr

/-! ### Length Fusion Unit (R50) -/

/-- One entry of the comparison ring; `none` is ABSENT (R64). -/
structure RingEntry where
  wheel : Option Int
  roller : Option Int
  deriving DecidableEq, Repr

/-- One entry of a copy of the calibration table (R57). -/
structure CalEntry where
  key : Nat
  value : Int
  enabled : Bool
  deriving DecidableEq, Repr

/-- The Length Fusion Unit: the track and the calibration table. -/
structure Fusion where
  p : Int
  zeroed : Bool
  gateUsed : Bool
  leftSum : Int
  rightSum : Int
  frames : Nat
  credit : Int
  ring : List RingEntry
  closing : Option Nat
  verdict : Verdict
  nonWheelRun : Nat
  degradedReported : Bool
  emptyRun : Nat
  logIntervals : Nat
  logNonWheel : Nat
  staged : Vector CalEntry 8
  working : Vector CalEntry 8
  deriving DecidableEq, Repr

/-! ### Profile Unit (R77) -/

/-- A stored diameter with its arrival time (R78). -/
structure SourceValue where
  mm : Nat
  at_ : Nat
  deriving DecidableEq, Repr

/-- The Profile Unit. -/
structure Profile where
  knife : Option SourceValue
  feed : Option SourceValue
  fused : Nat
  diameterClass : Nat
  buckets : Vector (Option Nat) 400
  thinTravel : Nat
  deriving DecidableEq, Repr

/-! ### Stem and Order Unit (R89, R103) -/

/-- An order in its slot. -/
structure Order where
  target : Nat
  tolMinus : Nat
  tolPlus : Nat
  minTop : Nat
  grade : Nat
  status : OrderStatus
  deriving DecidableEq, Repr

/-- The handshake view. -/
structure HandshakeView where
  kind : CutKind
  index : OrderIndex
  progress : Progress
  deriving DecidableEq, Repr

/-- The Stem and Order Unit. The log record FIFO is a transmit source and stands in `Link`. -/
structure StemUnit where
  state : StemState
  serial : Half
  returnState : Option StemState
  closePending : Bool
  view : Option HandshakeView
  orders : Vector (Option Order) 12
  logNumber : Nat
  offsizeMark : Bool
  disputeMark : Bool
  deriving DecidableEq, Repr

/-! ### Feed Controller (R109) -/

/-- The hold record: the cut kind and order index of the HOLD REQUEST being served. -/
structure HoldRecord where
  kind : CutKind
  index : OrderIndex
  deriving DecidableEq, Repr

/-- The Feed Controller. -/
structure Feed where
  mode : FeedMode
  hold : HoldState
  holdRecord : Option HoldRecord
  demand : Int
  expiry : Option Nat
  stoppedCount : Nat
  approachOrder : Option (Fin 12)
  stage : ApproachStage
  direction : Direction
  previousD : Option Int
  attempts : Nat
  approachDuty : Int
  feedDuty : Int
  gripDuty : Int
  deriving DecidableEq, Repr

/-! ### Saw Sequencer (R127) -/

/-- The handshake record. -/
structure SawRecord where
  kind : CutKind
  index : OrderIndex
  attempt : Nat
  pFeed : Option Int
  offsize : Bool
  dispute : Bool
  cutDone : Bool
  deriving DecidableEq, Repr

/-- The Saw Sequencer. `firstDelivery` says that no flag delivery has come since the entry into OPERATING, which R143
asks for. -/
structure Saw where
  state : SawState
  record : Option SawRecord
  grantTimer : Option Nat
  chainTimer : Option Nat
  cutTimer : Option Nat
  returnTimer : Option Nat
  barDuty : Int
  chainDuty : Int
  lastPeriod : Option Nat
  lastHome : Bool
  lastEnd : Bool
  firstDelivery : Bool
  deriving DecidableEq, Repr

/-! ### Valve Drivers (R145) -/

/-- One valve channel. `none` is NONE, for the side driven and for the last side stopped. -/
structure Channel where
  presented : Int
  buffer : Int
  active : Int
  side : Option Side
  lastStopped : Option (Side × Nat)
  overload : Nat
  latched : Bool
  deriving DecidableEq, Repr

/-- The Valve Drivers: four channels, the shared PWM period timer with the start and the length (ms) of the present
period (R147), and the timers of the knife law (R154) and the wheel arm law (R156). -/
structure Valves where
  channels : Vector Channel 4
  pwmTimer : Nat
  periodStart : Nat
  periodMs : Nat
  knifeOpen : Option Nat
  wheelLift : Option Nat
  deriving DecidableEq, Repr

/-! ### Safety and Fault Unit (R157) -/

/-- The Safety and Fault Unit. `arming` is the moment the arming timer expires, `none` when the arming is clear. The
answer slot is a transmit source and stands in `Link`. -/
structure SafetyUnit where
  output : OutputState
  stopAsserted : Bool
  arming : Option Nat
  record : FaultRecord
  previous : Severity
  faultLine : Bool
  deriving DecidableEq, Repr

/-! ### The station -/

/-- One D226: the commands that wait, first in first out, the time base, what the straps gave, the phase, the settings
and the ten blocks. -/
structure State where
  pending : List Instr
  now : Nat
  role : Role
  identity : Ident
  phase : Phase
  settings : Settings
  capture : Capture
  link : Link
  peers : Vector Peer 8
  fusion : Fusion
  profile : Profile
  stem : StemUnit
  feed : Feed
  saw : Saw
  valves : Valves
  safety : SafetyUnit
  deriving DecidableEq, Repr

/-- The reasons a command stops the machine. There is none: the manual gives every command of the table an effect in
every state, if only to be ignored, so no meaning of this model ends in a fault. -/
inductive Fault where
  deriving DecidableEq, Repr

/-- The reasons a command has no meaning. -/
inductive Refusal where
  /-- Raised by an arm of `exec` whose command has no meaning yet. Safe: nothing can be proved of a run through it. No
  arm raises it now. -/
  | notModelled (mnemonic : String)
  deriving DecidableEq, Repr

/-! ### Reset (R170 and the reset tables of each chapter) -/

/-- A capture channel after reset: total 0, no edge, no period, and the levels then present as its reference (R3). -/
def CapChannel.reset (mode : CapMode) (pair : Bool × Bool) : CapChannel where
  mode := mode
  pair := pair
  total := 0
  lastEdge := none
  period := none

/-- An entry of the Peer Table after reset (R34). -/
def Peer.reset : Peer where
  presence := .absent
  role := .unknown
  phase := .start
  stem := .noStem
  lastHeard := none
  timeout := Settings.defaults.silenceTimeout
  motionSeq := none
  rollerSeq := none
  gateSeq := none
  wheelTotal := 0
  leftTotal := 0
  rightTotal := 0
  baselinePending := true
  gapCount := 0
  conflict := false

/-- A calibration entry after reset: disabled, key 0, value 0 (R57). -/
def CalEntry.reset : CalEntry := ⟨0, 0, false⟩

/-- A valve channel after reset (R145). -/
def Channel.reset : Channel where
  presented := 0
  buffer := 0
  active := 0
  side := none
  lastStopped := none
  overload := 0
  latched := false

/-- The empty fault record: severity NONE, kind 0, every other field 0 except the cause fields, which are none (R166). -/
def FaultRecord.empty : FaultRecord where
  severity := .none
  kind := none
  serial := 0
  orderIndex := 0
  p := 0
  causeClass := none
  causeSender := none
  laterCount := 0

/-- The Length Fusion Unit after reset (R50). -/
def Fusion.reset : Fusion where
  p := 0
  zeroed := false
  gateUsed := false
  leftSum := 0
  rightSum := 0
  frames := 0
  credit := 0
  ring := []
  closing := none
  verdict := .none
  nonWheelRun := 0
  degradedReported := false
  emptyRun := 0
  logIntervals := 0
  logNonWheel := 0
  staged := Vector.replicate 8 CalEntry.reset
  working := Vector.replicate 8 CalEntry.reset

/-- The Profile Unit after reset (R77). -/
def Profile.reset : Profile where
  knife := none
  feed := none
  fused := 0
  diameterClass := 0
  buckets := Vector.replicate 400 none
  thinTravel := 0

/-- The Stem and Order Unit after reset (R89). -/
def StemUnit.reset : StemUnit where
  state := .noStem
  serial := 0
  returnState := none
  closePending := false
  view := none
  orders := Vector.replicate 12 none
  logNumber := 0
  offsizeMark := false
  disputeMark := false

/-- The Feed Controller after reset (R109). -/
def Feed.reset : Feed where
  mode := .manual
  hold := .free
  holdRecord := none
  demand := 0
  expiry := none
  stoppedCount := 0
  approachOrder := none
  stage := .approach
  direction := .forward
  previousD := none
  attempts := 0
  approachDuty := 0
  feedDuty := 0
  gripDuty := 0

/-- The Saw Sequencer after reset (R127). -/
def Saw.reset : Saw where
  state := .idle
  record := none
  grantTimer := none
  chainTimer := none
  cutTimer := none
  returnTimer := none
  barDuty := 0
  chainDuty := 0
  lastPeriod := none
  lastHome := false
  lastEnd := false
  firstDelivery := false

/-- The Link Controller after reset: empty but for one ANNOUNCE with phase START, the keep-alive timer started with the
default silence timeout, and the line seen busy (2.8). -/
def Link.reset (role : Role) : Link where
  stopSlot := none
  handshake := []
  motionSlot := none
  rollerSlot := none
  gateSlot := none
  diameterSlot := none
  faultSlot := none
  logFifo := []
  answerSlot := none
  announceSlot := some ⟨.announce role .start .noStem, 0⟩
  repeatMark := false
  keepAlive := some (Settings.defaults.silenceTimeout / 2 * 1000)
  checkFailures := 0
  txFailures := 0
  lineIdle := false
  onLine := none
  ownCompleted := none

/-- The machine at the end of a reset with these pins (R170), with the commands that wait left in their queue. The time
base counts from here (11.7). Every capture channel takes the levels on its lines as its reference pair: R3 says so of a
QUADRATURE channel; for a PERIOD or OFF channel, which does not read them (R1) and whose pair nothing reads, it is a DESIGN
CHOICE (notes/assumptions/21.md). -/
def State.boot (pins : Pins) (pending : List Instr) : State :=
  let role := Role.ofStraps pins.role1 pins.role0
  let identity : Ident :=
    Fin.ofNat 8 (4 * pins.id2.toNat + 2 * pins.id1.toNat + pins.id0.toNat)
  { pending := pending
    now := 0
    role := role
    identity := identity
    phase := .start
    settings := Settings.defaults
    capture :=
      { cap0 := CapChannel.reset (CapMode.ofRole role 0) pins.cap0
        cap1 := CapChannel.reset (CapMode.ofRole role 1) pins.cap1
        cap2 := CapChannel.reset (CapMode.ofRole role 2) pins.cap2
        ownDiameter := 0
        contact := false
        barHome := false
        barEnd := false
        gateBlocked := pins.gate
        motionSeq := 0
        rollerSeq := 0
        gateSeq := 0
        sampleTimer := none }
    link := Link.reset role
    peers :=
      (Vector.replicate 8 Peer.reset).set identity
        { Peer.reset with presence := .self, role := .d226 role }
    fusion := Fusion.reset
    profile := Profile.reset
    stem := StemUnit.reset
    feed := Feed.reset
    saw := Saw.reset
    valves :=
      { channels := Vector.replicate 4 Channel.reset
        pwmTimer := Settings.defaults.pwmPeriod * 1000
        periodStart := 0
        periodMs := Settings.defaults.pwmPeriod
        knifeOpen := none
        wheelLift := none }
    safety :=
      { output := .run
        stopAsserted := !pins.stop
        arming := none
        record := FaultRecord.empty
        previous := .none
        faultLine := false } }

/-- The pins `State.reset` stands for: all straps and lines low, the gate clear, the stop line high and so INACTIVE.
DESIGN CHOICE (notes/assumptions/4.md): the manual leaves them to the board. -/
def Pins.board : Pins where
  role1 := false
  role0 := false
  id2 := false
  id1 := false
  id0 := false
  cap0 := (false, false)
  cap1 := (false, false)
  cap2 := (false, false)
  gate := false
  stop := true

/-- The machine right after reset, with no command waiting. -/
def State.reset : State := State.boot Pins.board []

end Sys2Proof.Machine
end

