-- ==== Sys2Proof/Machine/Operands.lean ====
section
/-! DEFINITION. The operand forms: how the fields a command carries, and the readings and counts it brings, are turned
into the quantities the blocks work with. -/

namespace Sys2Proof.Machine

/-- A two-byte field read as a signed number (2.6). -/
def signed16 (h : Half) : Int := h.toInt

/-- A four-byte field read as a signed number (2.6). -/
def signed32 (w : Word) : Int := w.toInt

/-- A number held to a range (00_scope, Arithmetic). -/
def clampInt (lo hi v : Int) : Int := if v < lo then lo else if hi < v then hi else v

/-- A count raised by `k` that stays at its maximum 255 once it has reached it (00_scope, Arithmetic). -/
def satAdd (n k : Nat) : Nat := min 255 (n + k)

/-- Milliseconds in the µs of the time base. -/
def ms (n : Nat) : Nat := n * 1000

/-! ### Capture (Chapter 1) -/

/-- The next pair of the forward cycle 00, 10, 11, 01 (R3). -/
def forwardOf : Bool × Bool → Bool × Bool
  | (false, false) => (true, false)
  | (true, false) => (true, true)
  | (true, true) => (false, true)
  | (false, true) => (false, false)

/-- A cumulative total after a transition of the line pair: one step forward adds 1, one step back subtracts 1, any
other change leaves it, modulo 2^32 (R3, R4). -/
def countTransition (old new : Bool × Bool) (total : Word) : Word :=
  if new = forwardOf old then total + 1 else if old = forwardOf new then total - 1 else total

/-- The own diameter of a raw arm angle, in mm (R9). -/
def ownDiameterOf (σ : Settings) (raw : Raw) : Nat :=
  min 900 (σ.diameterZero + raw.toNat * σ.diameterSpan / 4096)

/-- The current of a raw reading, in mA (R12). -/
def currentOf (raw : Raw) : Nat := raw.toNat * 4000 / 4096

/-- The travel between two cumulative totals: the difference modulo 2^32 read as a signed number (R45). -/
def deltaOf (stored new : Word) : Int := (new - stored).toInt

/-- How many frames of a class a sequence number skips (R46): with d the difference modulo 256, d − 1 for a d of 2 or
more, and 0 for the next number, the same number, or a number that is not known. -/
def seqSkipped (known : Option Byte) (seq : Byte) : Nat :=
  match known with
  | none => 0
  | some k => (seq - k).toNat - 1

/-! ### Fusion (Chapter 4) -/

/-- The correction for a diameter class: the value of the enabled entry of lowest number whose key is the class, or 0
(R60). -/
def calLookup (table : Vector CalEntry 8) (diameterClass : Nat) : Int :=
  match table.toList.find? fun e => e.enabled && e.key == diameterClass with
  | some e => e.value
  | none => 0

/-- The wheel distance of `n` counts under a scale and a correction, in µm (R56). -/
def wheelDistanceOf (scale : Nat) (c n : Int) : Int := n * scale + Int.tdiv (n * scale * c) 10000

/-- The roller counts of the two sums of the accumulator (R55): 0 where a sum is 0 or the signs differ, else the sum of
smaller magnitude, the left one where they are equal. -/
def rollerCounts (left right : Int) : Int :=
  if left * right ≤ 0 then 0 else if left.natAbs ≤ right.natAbs then left else right

/-- The roller distance of the accumulator, `none` for ABSENT (R55). -/
def rollerDistanceOf (scale : Nat) (f : Fusion) : Option Int :=
  if f.frames = 0 then none else some (rollerCounts f.leftSum f.rightSum * scale)

/-- The comparison ring with an entry pushed at its newest end; the oldest is dropped beyond four (R64). -/
def pushRing (ring : List RingEntry) (e : RingEntry) : List RingEntry :=
  (ring ++ [e]).drop (ring.length + 1 - Config.ringDepth)

/-- The sums W and R over the entries that hold both distances (R64). -/
def ringSums : List RingEntry → Int × Int
  | [] => (0, 0)
  | ⟨some w, some r⟩ :: es => ((ringSums es).1 + w, (ringSums es).2 + r)
  | _ :: es => ringSums es

/-- The allowance for a roller sum (R65). -/
def allowanceOf (σ : Settings) (r : Int) : Int :=
  max (σ.slipAllowance : Int) (Int.tdiv ((r.natAbs : Int) * σ.slipProportion) 1000)

/-- The verdict over the sums W and R, the first line that applies (R65). -/
def compareSums (σ : Settings) (w r : Int) : Verdict :=
  if w * r < 0 then .conflict
  else if (r.natAbs : Int) - w.natAbs > allowanceOf σ r then .rollerSlip
  else if (w.natAbs : Int) - r.natAbs > allowanceOf σ r then .wheelOverrun
  else .agree

/-- What a close on MOTION decides: its verdict, its chosen distance and the ring after it. -/
structure Judgement where
  verdict : Verdict
  chosen : Int
  ring : List RingEntry
  deriving DecidableEq, Repr

/-- The judgement of an interval with wheel distance `w`, roller distance `r` and a contact flag (R63, R64, R65). -/
def judge (σ : Settings) (ring : List RingEntry) (w : Int) (r : Option Int) (contact : Bool) : Judgement :=
  match r with
  | none => ⟨.wheelOnly, w, pushRing ring ⟨some w, none⟩⟩
  | some r =>
    if contact then
      let ring' := pushRing ring ⟨some w, some r⟩
      match compareSums σ (ringSums ring').1 (ringSums ring').2 with
      | .conflict => ⟨.conflict, 0, ring'⟩
      | .wheelOverrun => ⟨.wheelOverrun, r, ring'⟩
      | v => ⟨v, w, ring'⟩
    else ⟨.lift, r, pushRing ring ⟨none, some r⟩⟩

/-! ### Profile (Chapter 5) -/

/-- The diameter class of a fused diameter (R80). -/
def diameterClassOf (fused : Nat) : Nat := min 15 (fused / 50)

/-- The buckets after a forward close: every empty bucket at or below the new P takes the fused diameter (R82). -/
def fillBuckets (buckets : Vector (Option Nat) 400) (p : Int) (fused : Nat) : Vector (Option Nat) 400 :=
  Vector.ofFn fun k =>
    match buckets[k] with
    | some mm => some mm
    | none => if ((k.val : Int) * 100000 ≤ p) then some fused else none

/-- The diameter of a bucket, or of the nearest filled one below it, or 0 (R85). -/
def bucketOrBelow (buckets : Vector (Option Nat) 400) : Nat → Nat
  | 0 => (buckets[0]).getD 0
  | k + 1 =>
    match buckets[k + 1]? with
    | some (some mm) => mm
    | _ => bucketOrBelow buckets k

/-- The length of a log in mm, from the P the track holds (R85, R107). -/
def logLengthOf (p : Int) : Nat := if p ≤ 0 then 0 else ((p + 500) / 1000).toNat

/-! ### Duties (Chapters 7 and 9) -/

/-- The knife duty of a fused diameter in RUNNING and AT MARK (R153). -/
def knifeDutyFor (σ : Settings) (fused : Nat) : Int :=
  min 1000 (σ.knifeBase + σ.knifeSlope * fused / 100 : Nat)

/-- How long a side is on within a period of `periodMs`, in µs to the nearest below (R148). -/
def onTimeUs (active : Int) (periodMs : Nat) : Nat := active.natAbs * ms periodMs / 1000

end Sys2Proof.Machine
end

