-- ==== Sys2Proof/Machine/Flags.lean ====
section
/-! DEFINITION. The flags and conditions the blocks compute from the state: conversions to flags, the filters of
reception, the conditions under which an output is off and the track is live. -/

namespace Sys2Proof.Machine

/-! ### Conversions (Chapter 1) -/

/-- The wheel contact flag of a raw pressure (R10). -/
def contactOf (σ : Settings) (raw : Raw) : Bool := decide (σ.contactThreshold ≤ raw.toNat)

/-- BAR HOME of a raw bar position (R11). -/
def barHomeOf (σ : Settings) (raw : Raw) : Bool := decide (raw.toNat ≤ σ.barHomeThreshold)

/-- BAR END of a raw bar position (R11). -/
def barEndOf (σ : Settings) (raw : Raw) : Bool := decide (σ.barEndThreshold ≤ raw.toNat)

/-! ### Filters of reception (Chapter 2) -/

/-- Whether a sender of this role is within the sender roles of a class (2.6). ANNOUNCE and the classes 29 to 31 name
no role: ANNOUNCE is exempt from the filter, and the others go no further than the Peer Table (R24). -/
def senderRoleOk : FrameClass → PeerRole → Bool
  | .stopNotice, .d226 _ | .faultNotice, .d226 _ | .answer, .d226 _ => true
  | .releasePrepare, .cab | .releaseConfirm, .cab | .feedDemand, .cab | .feedMode, .cab | .cutCommand, .cab
  | .stemOpen, .cab | .stemClose, .cab | .order, .cab | .cal, .cab | .clearFault, .cab | .query, .cab
  | .setup, .cab | .setupEnd, .cab => true
  | .holdRequest, .d226 .saw | .holdRelease, .d226 .saw | .cutStart, .d226 .saw | .cutDone, .d226 .saw
  | .orderReject, .d226 .saw | .logRecord, .d226 .saw => true
  | .holdGrant, .d226 .feed | .halted, .d226 .feed | .roller, .d226 .feed | .diameter, .d226 .feed => true
  | .motion, .d226 .measure | .gate, .d226 .measure => true
  | .diameter, .d226 .knife => true
  | .announce, _ => true
  | _, _ => false

/-- The role filter: the sender's entry holds a sender role of the class and no CONFLICT mark (R25). -/
def State.roleFilter (s : State) (c : FrameClass) (sender : Ident) : Bool :=
  senderRoleOk c s.peers[sender].role && !s.peers[sender].conflict

/-- The stem-serial filter: a stem is open, and the frame names it (R26). -/
def State.serialFilter (s : State) (serial : Half) : Bool :=
  decide (s.stem.state ≠ .noStem) && decide (serial = s.stem.serial)

/-- Whether an addressed frame is addressed to the station: its own identity, or 255 (R27). -/
def State.addressed (s : State) (addressee : Byte) : Bool :=
  addressee.toNat == s.identity.val || addressee.toNat == 255

/-! ### Conditions read by several blocks -/

/-- The track is live when zeroed is yes and the stem state is neither NO STEM nor GRIPPED (R52). -/
def State.live (s : State) : Bool :=
  s.fusion.zeroed && decide (s.stem.state ≠ .noStem) && decide (s.stem.state ≠ .gripped)

/-- Every channel is forced off in STOPPED, in START and in SILENT (R152). -/
def State.forcedOff (s : State) : Bool :=
  decide (s.safety.output = .stopped) || decide (s.phase ≠ .operating)

/-- The chain is at speed when its period is a number at or below the threshold (R135). -/
def chainAtSpeed (σ : Settings) (period : Option Nat) : Bool :=
  match period with
  | some n => decide (n ≤ σ.chainThreshold)
  | none => false

/-- The fault line is asserted while the record holds a DEGRADE or STOP fault (R167). -/
def faultLineOf (r : FaultRecord) : Bool := decide (2 ≤ r.severity.code)

/-- A stored source value is recent while less than 3 × T_s has passed since its arrival (R78). -/
def isRecent (σ : Settings) (now : Nat) (v : SourceValue) : Bool := decide (now < v.at_ + ms (3 * σ.samplePeriod))

/-- Whether a halt error lies within the tolerances of an order (R118, R119). -/
def withinTolerance (o : Order) (e : Int) : Bool :=
  decide (-((o.tolMinus : Int) * 1000) ≤ e) && decide (e ≤ (o.tolPlus : Int) * 1000)

/-- The dead interval lets `want` start: last side stopped does not name the other side within the interval (R149). -/
def deadIntervalOver (σ : Settings) (now : Nat) (lastStopped : Option (Side × Nat)) (want : Side) : Bool :=
  match lastStopped with
  | some (side, at_) => if side = want.other then decide (at_ + ms σ.deadInterval ≤ now) else true
  | none => true

end Sys2Proof.Machine
end

