-- ==== Sys2Proof/Machine/Ops.lean ====
section
/-! DEFINITION. The operations the meanings share: the clock, the fault record and the entry into STOPPED, placing
frames, announcing, the order queue and activation, the transitions of the stem state, the frame of every observation,
and the duties that follow the state. -/

namespace Sys2Proof.Machine

/-! ### The clock -/

/-- The moment of an event: the time base never runs back. -/
def State.clock (s : State) (t : Nat) : State := { s with now := max s.now t }

/-- The moment of an expiry: the timer expires when its time has come, so the time base stands at its due time or later
(R129; notes/assumptions/2.md). -/
def State.clockDue (s : State) (t due : Nat) : State := { s with now := max (max s.now t) due }

/-- The moment `n` milliseconds from now. -/
def State.inMs (s : State) (n : Nat) : Nat := s.now + ms n

/-! ### The order queue (6.5) -/

/-- Whether a slot holds an order of this status. -/
def slotIs (st : OrderStatus) (slot : Option Order) : Bool :=
  match slot with
  | some o => decide (o.status = st)
  | none => false

/-- The lowest index whose order has this status. -/
def lowestWith (orders : Vector (Option Order) 12) (st : OrderStatus) : Option (Fin 12) :=
  (List.finRange 12).find? fun i => slotIs st orders[i]

/-- The index of the ACTIVE order (R103: there is at most one). -/
def State.activeIndex (s : State) : Option (Fin 12) := lowestWith s.stem.orders .active

/-- The ACTIVE order. -/
def State.activeOrder (s : State) : Option Order :=
  match s.activeIndex with
  | some i => s.stem.orders[i]
  | none => none

/-- A slot whose order takes a status if it is PENDING or ACTIVE; a final status is kept, an empty slot stays empty
(R97, R98, R100). -/
def finishSlot (st : OrderStatus) (slot : Option Order) : Option Order :=
  match slot with
  | some o => if o.status = .pending ∨ o.status = .active then some { o with status := st } else some o
  | none => none

/-- The queue after the order at an index takes a final status if it is PENDING or ACTIVE. -/
def finishOrder (orders : Vector (Option Order) 12) (i : OrderIndex) (st : OrderStatus) : Vector (Option Order) 12 :=
  match i with
  | some i => orders.set i (finishSlot st orders[i])
  | none => orders

/-- The queue after every PENDING and ACTIVE order is ABANDONED (R92, R101). -/
def abandonOrders (orders : Vector (Option Order) 12) : Vector (Option Order) 12 :=
  Vector.ofFn fun i => finishSlot .abandoned orders[i]

/-! ### The fault record (10.5) -/

/-- The fields a capture offers to the record (R164). -/
def State.captureFields (s : State) (k : FaultKind) (cls : Option FrameClass) (sender : Option Ident) : FaultRecord where
  severity := k.severity
  kind := some k
  serial := s.stem.serial
  orderIndex := if s.stem.state = .noStem then 255 else OrderIndex.code s.activeIndex
  p := s.fusion.p
  causeClass := cls
  causeSender := sender
  laterCount := 0

/-- The record after a capture: filled when empty, overwritten by a higher severity with the later count kept, else
counted (R165). -/
def takeCapture (held new : FaultRecord) : FaultRecord :=
  if held.severity = .none then new
  else if held.severity.code < new.severity.code then { new with laterCount := held.laterCount }
  else { held with laterCount := satAdd held.laterCount 1 }

/-- Whether a capture fills or overwrites the record, which places a FAULT NOTICE (R165). -/
def fillsRecord (held new : FaultRecord) : Bool :=
  decide (held.severity = .none) || decide (held.severity.code < new.severity.code)

/-- A capture: it reaches the record, and a fill or overwrite places a FAULT NOTICE in its slot, replacing an unsent one;
in SILENT the notice is discarded (R164, R165, R30). This is the whole of a capture of NOTICE or DEGRADE severity;
a capture of STOP severity is `State.captureStop`. -/
def State.report (s : State) (k : FaultKind) (cls : Option FrameClass) (sender : Option Ident) : State :=
  let new := s.captureFields k cls sender
  let record := takeCapture s.safety.record new
  { s with
    safety.record := record
    link.faultSlot :=
      if fillsRecord s.safety.record new ∧ s.phase ≠ .silent then some ⟨.faultNotice record s.safety.previous, 0⟩
      else s.link.faultSlot }

/-! ### Placing frames (R28, R30) -/

/-- A frame placed into the handshake FIFO; a full FIFO discards it with NOTICE/QUEUE OVERFLOW (R28), and in SILENT it
is discarded without fault (R30). -/
def State.placeHandshake (s : State) (f : Frame) : State :=
  if s.phase = .silent then s
  else if s.link.handshake.length < Config.fifoDepth then
    { s with link.handshake := s.link.handshake ++ [⟨f, 0⟩] }
  else s.report .queueOverflow (some f.cls) none

/-- A LOG RECORD placed into the log record FIFO, with the same overflow rule (R28, R108). -/
def State.placeLog (s : State) (r : LogRecord) : State :=
  if s.phase = .silent then s
  else if s.link.logFifo.length < Config.fifoDepth then
    { s with link.logFifo := s.link.logFifo ++ [⟨.logRecord r, 0⟩] }
  else s.report .queueOverflow (some .logRecord) none

/-- A STOP NOTICE placed into the STOP slot, replacing an unsent one (R160, R28). -/
def State.placeStopNotice (s : State) (k : FaultKind) : State :=
  if s.phase = .silent then s else { s with link.stopSlot := some ⟨.stopNotice k s.stem.serial, 0⟩ }

/-- An ANNOUNCE with the station's content at this moment (R31). -/
def State.freshAnnounce (s : State) : TxFrame := ⟨.announce s.role s.phase s.stem.state, 0⟩

/-- A call for an ANNOUNCE: placed in an empty slot, absorbed by an unsent one of the same phase, or remembered by the
repeat mark when the unsent one still carries phase START (R31, R33). -/
def State.callAnnounce (s : State) : State :=
  if s.phase = .silent then s
  else
    match s.link.announceSlot with
    | none => { s with link.announceSlot := some s.freshAnnounce }
    | some ⟨.announce _ phase _, _⟩ => if phase = s.phase then s else { s with link.repeatMark := true }
    | some _ => s

/-- When an ANNOUNCE has left the slot and the repeat mark is set, the mark is cleared and a fresh one is placed
(R33). -/
def State.repeatAnnounce (s : State) : State :=
  if s.link.repeatMark then { s with link.repeatMark := false, link.announceSlot := some s.freshAnnounce } else s

/-- The keep-alive timer started at this moment with the silence timeout in force (R32). -/
def State.startKeepAlive (s : State) : State :=
  { s with link.keepAlive := some (s.inMs (s.settings.silenceTimeout / 2)) }

/-! ### Activation (R105, R106) -/

/-- The judgement of an order just made ACTIVE in a SAW station: a P beyond the target by more than the reverse limit
places ORDER REJECT with reason PASSED (R106). -/
def State.judgePassed (s : State) (i : Fin 12) (o : Order) : State :=
  if s.role = .saw ∧ (o.target : Int) * 1000 + (s.settings.reverseLimit : Int) * 1000 < s.fusion.p then
    s.placeHandshake (.orderReject s.stem.serial (some i) .passed)
  else s

/-- Activation considered: with the stem state RUNNING, zeroed yes and no ACTIVE order, the PENDING order of lowest index
becomes ACTIVE (R105). -/
def State.activate (s : State) : State :=
  if s.stem.state = .running ∧ s.fusion.zeroed = true ∧ s.activeIndex = none then
    match lowestWith s.stem.orders .pending with
    | none => s
    | some i =>
      match s.stem.orders[i] with
      | none => s
      | some o => { s with stem.orders := s.stem.orders.set i (some { o with status := .active }) }.judgePassed i o
  else s

/-! ### The Feed Controller's answers to events of other blocks -/

/-- The feed mode becomes MANUAL, if it was AUTO; every change of mode sets the manual demand to 0 and stops the expiry
timer (R112). -/
def Feed.toManual (f : Feed) : Feed :=
  if f.mode = .auto then { f with mode := .manual, demand := 0, expiry := none } else f

/-- The hold ends: hold state FREE, hold record cleared (R123, R124). -/
def Feed.free (f : Feed) : Feed := { f with hold := .free, holdRecord := none }

/-- The Feed Controller at the entry into STOPPED (R124). -/
def Feed.stop (f : Feed) : Feed := { f.free with mode := .manual, demand := 0, expiry := none }

/-! ### The Saw Sequencer's states (R128, R129) -/

/-- The sequencer enters a handshake state at a moment when the state's timer falls due at `due`: that timer starts and
every other stops (R128, R129). -/
def Saw.enter (σ : Saw) (st : SawState) (due : Nat) : Saw :=
  { σ with
    state := st
    grantTimer := if st = .requested then some due else none
    chainTimer := if st = .spin then some due else none
    cutTimer := if st = .down then some due else none
    returnTimer := if st = .ret then some due else none }

/-- How long the timer of a handshake state runs, in ms (R129). -/
def sawTimeout (σ : Settings) : SawState → Nat
  | .idle => 0
  | .requested => σ.grantTimeout
  | .spin => σ.chainTimeout
  | .down => σ.cutTimeout
  | .ret => σ.returnTimeout

/-- The sequencer enters a handshake state now. -/
def State.sawEnter (s : State) (st : SawState) : State :=
  { s with saw := s.saw.enter st (s.inMs (sawTimeout s.settings st)) }

/-- The sequencer discards its record, stops its timers and enters IDLE (R142, R144). -/
def Saw.discard (σ : Saw) : Saw := { σ.enter .idle 0 with record := none }

/-! ### Transitions of the stem state -/

/-- The Length Fusion Unit leaves the stem at each entry into NO STEM (R76). -/
def Fusion.leave (f : Fusion) : Fusion :=
  { f with p := 0, zeroed := false, gateUsed := false, logIntervals := 0, logNonWheel := 0 }

/-- The profile emptied (R84). -/
def Profile.clear (p : Profile) : Profile := { p with buckets := Vector.replicate 400 none }

/-- The stem state changes to `new`. The knife open timer starts at an entry into TOPPED and stops at any other change
(R154); the lift timer starts at an entry into TOPPED or NO STEM and stops at any other change (R156); an entry into
TOPPED or NO STEM takes the feed mode to MANUAL (R112); an entry into NO STEM leaves the track (R76), empties the profile
and clears thin travel (R84, R87), frees the hold (R124) and ends a handshake in REQUESTED (R144). -/
def State.enterStem (s : State) (new : StemState) : State :=
  let off := new = .topped ∨ new = .noStem
  { s with
    stem.state := new
    valves.knifeOpen :=
      if s.role = .knife ∧ new = .topped then some (s.inMs s.settings.knifeOpenTime) else none
    valves.wheelLift :=
      if s.role = .measure ∧ off then some (s.inMs s.settings.wheelLiftTime) else none
    feed := if new = .noStem then s.feed.toManual.free else if off then s.feed.toManual else s.feed
    fusion := if new = .noStem then s.fusion.leave else s.fusion
    profile := if new = .noStem then { s.profile.clear with thinTravel := 0 } else s.profile
    saw := if new = .noStem ∧ s.saw.state = .requested then s.saw.discard else s.saw }

/-- The stem is closed: its PENDING and ACTIVE orders are abandoned and the queue emptied, the return state, close-pending,
the view and the cut marks are cleared, and the station enters NO STEM (R92, R93, R108). -/
def State.closeStem (s : State) : State :=
  { s with
    stem.orders := Vector.replicate 12 none
    stem.returnState := none
    stem.closePending := false
    stem.view := none
    stem.offsizeMark := false
    stem.disputeMark := false }.enterStem .noStem

/-- The station leaves CUTTING for `new`, or takes a pending close in its place (R93, R98, R102); entering RUNNING brings
activation. -/
def State.leaveCutting (s : State) (new : StemState) : State :=
  if s.stem.closePending then s.closeStem
  else ({ s with stem.returnState := none, stem.view := none }.enterStem new).activate

/-! ### The entry into STOPPED and captures of STOP severity (R159, R160) -/

/-- The Stem and Order Unit at the entry into STOPPED: a begun ORDER cut whose order is ACTIVE interrupts it, and the view
is cleared (R102). -/
def StemUnit.stop (u : StemUnit) : StemUnit :=
  match u.view with
  | some ⟨.order, some i, .started⟩ =>
    { u with
      view := none
      orders := if slotIs .active u.orders[i] then finishOrder u.orders (some i) .interrupted else u.orders }
  | _ => { u with view := none }

/-- The entry into STOPPED (R159). The valve channels follow in `State.refresh`. -/
def State.enterStopped (s : State) : State :=
  State.activate
    { s with
      safety.output := .stopped
      feed := if s.role = .feed then s.feed.stop else s.feed
      saw := if s.role = .saw then s.saw.discard else s.saw
      stem := s.stem.stop }

/-- A capture of STOP severity: the record, the STOP NOTICE of a local cause, the arming cleared, and the entry into
STOPPED if the output state was RUN (R159, R160, R162). -/
def State.captureStop (s : State) (k : FaultKind) (cls : Option FrameClass) (sender : Option Ident) (isLocal : Bool) :
    State :=
  let s := s.report k cls sender
  let s := if isLocal then s.placeStopNotice k else s
  let s := { s with safety.arming := none }
  if s.safety.output = .run then s.enterStopped else s

/-! ### SILENT (R30, R41, R177) -/

/-- Every transmit source emptied, the frame on the line abandoned, the repeat mark cleared, the keep-alive timer stopped
(R30). -/
def Link.silence (l : Link) : Link :=
  { l with
    stopSlot := none
    handshake := []
    motionSlot := none
    rollerSlot := none
    gateSlot := none
    diameterSlot := none
    faultSlot := none
    logFifo := []
    answerSlot := none
    announceSlot := none
    repeatMark := false
    keepAlive := none
    onLine := none
    ownCompleted := none }

/-- The entry into SILENT: transmission ends and the timers of the blocks stop, but for the PWM period timer, which runs in
every phase (R177, R147). -/
def State.enterSilent (s : State) : State :=
  { s with
    phase := .silent
    link := s.link.silence
    capture.sampleTimer := none
    fusion.closing := none
    feed.expiry := none
    saw.grantTimer := none
    saw.chainTimer := none
    saw.cutTimer := none
    saw.returnTimer := none
    valves.knifeOpen := none
    valves.wheelLift := none
    safety.arming := none }

/-- An identity conflict: STOP/ID CONFLICT with the frame's class and the station's own identity, then SILENT (R41). -/
def State.idConflict (s : State) (cls : FrameClass) : State :=
  (s.captureStop .idConflict (some cls) (some s.identity) true).enterSilent

/-! ### Observing a frame (R24, R36) -/

/-- Whether the class is one of the four publications, which a D226 sends only in OPERATING (R36). -/
def isPublication : FrameClass → Bool
  | .motion | .roller | .gate | .diameter => true
  | _ => false

/-- The sequence numbers and totals are no longer a reference: baseline-pending set, the known marks cleared. -/
def Peer.rebaseline (p : Peer) : Peer :=
  { p with baselinePending := true, motionSeq := none, rollerSeq := none, gateSeq := none }

/-- Steps 2 to 4 of R36 on the sender's entry: an ABSENT or LOST entry becomes PRESENT with a new baseline due, the time
last heard is set with the silence timeout in force, and a publication shows phase OPERATING. The SELF entry has no
silence supervision (R35). -/
def Peer.heard (p : Peer) (now : Nat) (timeout : Nat) (c : FrameClass) : Peer :=
  let p := if p.presence = .absent ∨ p.presence = .lost then { p.rebaseline with presence := .present } else p
  let p := if p.presence = .self then p else { p with lastHeard := some now, timeout := timeout }
  if isPublication c then { p with phase := .operating } else p

/-- An entry of the Peer Table replaced. -/
def State.setPeer (s : State) (i : Ident) (p : Peer) : State := { s with peers := s.peers.set i p }

/-- What the Peer Table records of a frame that is no identity conflict (R36 steps 2 to 4); the own frame that has just
completed is thereby observed (R23). -/
def State.record (s : State) (t : Nat) (f : RawFrame) : State :=
  { s.clock t with
    link.lineIdle := false
    link.ownCompleted := if f.sender = s.identity then none else s.link.ownCompleted
    peers :=
      s.peers.set f.sender (s.peers[f.sender].heard (max s.now t) s.settings.silenceTimeout f.cls) }

/-- Whether the station sent this frame to completion itself, where the frame carries its identity (R36 step 1). -/
def State.isOwn (s : State) (f : RawFrame) : Bool := decide (s.link.ownCompleted = some f)

/-- The observation of a frame at `t` (R24). In SILENT it reaches no block (R42). A frame with the station's own identity
that the station has not just sent to completion is an identity conflict (R36 step 1, R41). Otherwise the sender's entry
records it and `rest` goes on, given the entry as it stood before. -/
def State.observe (s : State) (t : Nat) (f : RawFrame) (rest : Peer → State → State) : State :=
  if s.phase = .silent then { s.clock t with link.lineIdle := false }
  else if f.sender = s.identity ∧ s.isOwn f = false then { s.clock t with link.lineIdle := false }.idConflict f.cls
  else rest s.peers[f.sender] (s.record t f)

/-- The observation of a frame of a class whose content the Peer Table does not take: after the role filter (R25), and with
the coded fields within their codes (`body` is `none` where one is not, R24 step 5), the block's own handling. -/
def State.observeFor (s : State) (t : Nat) (f : RawFrame) (body : Option (State → State)) : State :=
  s.observe t f fun _ s =>
    if s.roleFilter f.cls f.sender then
      match body with
      | some g => g s
      | none => s
    else s

/-- The handling of a stem-scoped frame: after the stem-serial filter, in OPERATING (R26, R90, R172). -/
def State.inStem (s : State) (serial : Half) (g : State → State) : State :=
  if s.phase = .operating ∧ s.serialFilter serial = true then g s else s

/-- The handling of a frame taken in OPERATING alone (R172). -/
def State.inOperating (s : State) (g : State → State) : State := if s.phase = .operating then g s else s

/-! ### The duties and outputs that follow the state -/

/-- The commanded feed duty, the first line that applies (R110). -/
def State.feedDutyNow (s : State) : Int :=
  if s.role ≠ .feed then 0
  else if s.phase ≠ .operating then 0
  else if s.safety.output = .stopped then 0
  else if s.feed.hold ≠ .free then 0
  else
    match s.feed.mode with
    | .manual => s.feed.demand
    | .auto => s.feed.approachDuty

/-- The commanded grip duty (R126). -/
def State.gripDutyNow (s : State) : Int :=
  if s.role = .feed ∧ s.stem.state ≠ .noStem then s.settings.rollerGripDuty else 0

/-- The commanded bar duty of the handshake state (R128). -/
def State.barDutyNow (s : State) : Int :=
  if s.role ≠ .saw then 0
  else
    match s.saw.state with
    | .down => s.settings.barDuty
    | .ret => -(s.settings.barDuty : Int)
    | .idle | .requested | .spin => 0

/-- The commanded chain duty of the handshake state (R128). -/
def State.chainDutyNow (s : State) : Int :=
  if s.role ≠ .saw then 0
  else
    match s.saw.state with
    | .requested | .spin | .down => s.settings.chainDuty
    | .idle | .ret => 0

/-- The duty of the knife law (R153, R154). -/
def State.knifeDutyNow (s : State) : Int :=
  match s.stem.state with
  | .noStem => 0
  | .gripped | .cutting => s.settings.knifeGripDuty
  | .running | .atMark => knifeDutyFor s.settings s.profile.fused
  | .topped => if s.valves.knifeOpen.isSome then -1000 else 0

/-- The duty of the wheel arm law (R155, R156). -/
def State.wheelDutyNow (s : State) : Int :=
  match s.stem.state with
  | .gripped | .running | .atMark | .cutting => s.settings.wheelPressDuty
  | .topped | .noStem => if s.valves.wheelLift.isSome then -(s.settings.wheelLiftDuty : Int) else 0

/-- The duty that the owner of a channel presents (R146). -/
def State.ownerDuty (s : State) (ch : Fin 4) : Int :=
  match s.role, ch with
  | .feed, 0 => s.feedDutyNow
  | .feed, 1 => s.gripDutyNow
  | .measure, 0 => s.wheelDutyNow
  | .knife, 0 => s.knifeDutyNow
  | .knife, 1 => s.knifeDutyNow
  | .saw, 0 => s.barDutyNow
  | .saw, 1 => s.chainDutyNow
  | _, _ => 0

/-- The side a channel drives is switched off, and recorded with the time (R148, R151, R152). -/
def Channel.switchOff (c : Channel) (now : Nat) : Channel :=
  match c.side with
  | some side => { c with side := none, lastStopped := some (side, now) }
  | none => c

/-- A channel follows the duty its owner presents. Forced off, it drives nothing, its active duty and overload count are 0
and its buffer is held at 0; otherwise the buffer takes the presented duty at once (R146, R152). -/
def Channel.follow (c : Channel) (forced : Bool) (now : Nat) (duty : Int) : Channel :=
  if forced then { c.switchOff now with presented := duty, buffer := 0, active := 0, overload := 0 }
  else { c with presented := duty, buffer := duty }

/-- What follows the state at every moment, brought up to date at the end of a command: the commanded duties (R110, R126,
R128), the presented duties and the channels (R146, R152), the SELF entry's phase and stem state (R35), and the fault
line (R167). The SELF entry follows the station into SILENT as well, a phase that R34 does not list for an entry and a
change that R42 seems to rule out: DEDUCED from R35 and R171 (notes/assumptions/22.md). -/
def State.refresh (s : State) : State :=
  { s with
    feed.feedDuty := s.feedDutyNow
    feed.gripDuty := s.gripDutyNow
    saw.barDuty := s.barDutyNow
    saw.chainDuty := s.chainDutyNow
    valves.channels := Vector.ofFn fun i => s.valves.channels[i].follow s.forcedOff s.now (s.ownerDuty i)
    peers := s.peers.set s.identity { s.peers[s.identity] with phase := s.phase, stem := s.stem.state }
    safety.faultLine := faultLineOf s.safety.record }

/-- The outcome of a command whose effect is a next state: that state, with what follows it brought up to date. -/
def State.done (s : State) : Host.Outcome State Fault Refusal := .next s.refresh

/-! ### The valve outputs (R148) -/

/-- Whether a side of a channel is on at a moment within the present period: it is the side driven, and its on-time has
not run out. -/
def State.outputOn (s : State) (ch : Fin 4) (side : Side) (t : Nat) : Bool :=
  decide (s.valves.channels[ch].side = some side) &&
  decide (t < s.valves.periodStart + onTimeUs s.valves.channels[ch].active s.valves.periodMs)

end Sys2Proof.Machine
end

