-- ==== Sys2Proof/Machine/Feed.lean ====
section
/-! DEFINITION. The Feed Controller (Chapter 7): the approach in AUTO, yielding and holding the stem, and the commands that
are its own: FEED DEMAND, MANUAL_EXPIRY, FEED MODE and HOLD REQUEST. -/

namespace Sys2Proof.Machine

/-! ### The approach (7.5) -/

/-- The approach stage and duty set together. -/
def State.approachTo (s : State) (stage : ApproachStage) (duty : Int) : State :=
  { s with feed.stage := stage, feed.approachDuty := duty }

/-- Stage CORRECT at a halt error e (R119). -/
def State.approachCorrect (s : State) (o : Order) : State :=
  let e := s.fusion.p - (o.target : Int) * 1000
  if withinTolerance o e then s.approachTo .settle 0
  else
    match s.feed.direction with
    | .forward => if 0 < e then s.approachTo .settle 0 else s.approachTo .correct s.settings.creepDuty
    | .reverse => if e < 0 then s.approachTo .settle 0 else s.approachTo .correct (-(s.settings.creepDuty : Int))

/-- HALTED placed once for a halt, and stage WAIT (R120). -/
def State.placeHalted (s : State) (offsize : Bool) : State :=
  (s.placeHandshake (.halted s.stem.serial s.feed.approachOrder s.fusion.p offsize)).approachTo .wait 0

/-- Stage SETTLE: the halt check once the stem is stopped (R118). -/
def State.approachSettle (s : State) (o : Order) : State :=
  let s := s.approachTo .settle 0
  if s.feed.stoppedCount ≠ 2 then s
  else
    let e := s.fusion.p - (o.target : Int) * 1000
    if withinTolerance o e then s.placeHalted false
    else
      let s := { s with feed.attempts := satAdd s.feed.attempts 1 }
      if s.settings.haltAttempts < s.feed.attempts then s.placeHalted true
      else { s with feed.direction := if e < 0 then .forward else .reverse }.approachCorrect o

/-- Whether the mark has been crossed since the last instant: one distance above 0 and the other below (R117). -/
def crossed (previous : Option Int) (d : Int) : Bool :=
  match previous with
  | some q => decide (q * d < 0)
  | none => false

/-- Stage APPROACH (R117); an instant that enters SETTLE goes on with the halt check of R118 at once. -/
def State.approachDrive (s : State) (o : Order) : State :=
  let d := (o.target : Int) * 1000 - s.fusion.p
  let previous := s.feed.previousD
  let s := { s with feed.previousD := some d }
  if crossed previous d then s.approachSettle o
  else if (s.settings.brakeDistance : Int) * 1000 < d then s.approachTo .approach s.settings.fullDuty
  else if (s.settings.haltWindow : Int) * 1000 < d then s.approachTo .approach s.settings.creepDuty
  else if d < -((s.settings.haltWindow : Int) * 1000) then s.approachTo .approach (-(s.settings.creepDuty : Int))
  else s.approachSettle o

/-- A new approach to the order at an index (R116). -/
def Feed.newApproach (f : Feed) (i : Fin 12) : Feed :=
  { f with approachOrder := some i, stage := .approach, previousD := none, attempts := 0 }

/-- The approach at a sample instant in AUTO (R116). -/
def State.approachStep (s : State) : State :=
  if s.role = .feed ∧ s.phase = .operating ∧ s.feed.mode = .auto then
    if (s.stem.state = .running ∨ s.stem.state = .atMark) ∧ s.fusion.zeroed = true then
      match s.activeIndex, s.activeOrder with
      | some i, some o =>
        if s.feed.approachOrder ≠ some i then { s with feed := s.feed.newApproach i }.approachDrive o
        else
          match s.feed.stage with
          | .approach => s.approachDrive o
          | .settle => s.approachSettle o
          | .correct => s.approachCorrect o
          | .wait => s.approachTo .wait 0
      | _, _ => { s with feed.approachDuty := 0, feed.approachOrder := none }
    else { s with feed.approachDuty := 0, feed.approachOrder := none }
  else s

/-- A zero event begins a new approach in AUTO (R116). -/
def Feed.zeroEvent (f : Feed) : Feed := if f.mode = .auto then { f with approachOrder := none } else f

/-! ### Stopped detection and the hold (7.4, 7.6) -/

/-- In YIELDING with the stem stopped: HELD, and HOLD GRANT with the hold record's cut kind and order index (R122). -/
def State.grantIfStopped (s : State) : State :=
  match s.feed.hold, s.feed.holdRecord with
  | .yielding, some r =>
    if s.feed.stoppedCount = 2 then
      { s with feed.hold := .held }.placeHandshake (.holdGrant s.stem.serial r.kind r.index)
    else s
  | _, _ => s

/-- A delivery from the station's own ROLLER frames: whether it showed no movement (R115), then the hold (R122). -/
def State.feedRoller (s : State) (still : Bool) : State :=
  if s.role = .feed ∧ s.phase = .operating then
    { s with feed.stoppedCount := if still then min 2 (s.feed.stoppedCount + 1) else 0 }.grantIfStopped
  else s

/-- The Feed Controller's part in a HOLD REQUEST (R121). -/
def State.yield_ (s : State) (kind : CutKind) (index : OrderIndex) : State :=
  if s.role = .feed ∧ s.feed.hold = .free ∧ s.safety.output = .run then
    { s with feed.hold := .yielding, feed.holdRecord := some ⟨kind, index⟩ }.grantIfStopped
  else s

/-- The Feed Controller's part in a HOLD RELEASE (R123, R112). -/
def Feed.released (f : Feed) (o : HoldOutcome) : Feed :=
  if f.hold = .free then f else if o = .done then f.free else f.free.toManual

/-- The loss of the SAW peer while the stem is yielded or held (R125). -/
def State.sawLost (s : State) (saw : Ident) : State :=
  if s.role = .feed ∧ s.feed.hold ≠ .free then s.captureStop .holdOrphaned none (some saw) true else s

/-! ### The commands -/

/-- FEED DEMAND (R113). -/
def execFeedDemand (t : Nat) (sender : Ident) (duty : Half) (s : State) : Host.Outcome State Fault Refusal :=
  (s.observeFor t ⟨.feedDemand, sender, le16 duty⟩ (some fun s => s.inOperating fun s =>
    if s.role = .feed ∧ s.safety.output = .run then
      { s with
        feed.demand := clampInt (-1000) 1000 (signed16 duty)
        feed.expiry := some (s.inMs s.settings.manualExpiry) }
    else s)).done

/-- The expiry timer runs out: the manual demand becomes 0 and the timer stops (R114). -/
def execManualExpiry (t : Nat) (s : State) : Host.Outcome State Fault Refusal :=
  match s.feed.expiry with
  | some due => { s.clockDue t due with feed.demand := 0, feed.expiry := none }.done
  | none => (s.clock t).done

/-- Entering AUTO, a change of mode like any other, with the attempt count, stage, previous d and approach order set afresh
(R111, R112). The approach duty is left as it stands until the next sample instant sets it under R116: R111's list does not
name it, and R112 does not say what "afresh" makes of it, DESIGN CHOICE (notes/assumptions/24.md). -/
def Feed.toAuto (f : Feed) : Feed :=
  { f with
    mode := .auto
    demand := 0
    expiry := none
    attempts := 0
    stage := .approach
    previousD := none
    approachOrder := none }

/-- FEED MODE in a FEED station (R111). -/
def State.setFeedMode (s : State) (sender : Ident) (m : FeedMode) : State :=
  if s.role ≠ .feed then s
  else
    match m, s.feed.mode with
    | .manual, _ => { s with feed := s.feed.toManual }
    | .auto, .auto => s
    | .auto, .manual =>
      if s.fusion.zeroed = true ∧ (s.stem.state = .running ∨ s.stem.state = .atMark) ∧ s.safety.output = .run then
        { s with feed := s.feed.toAuto }
      else s.report .commandRefused (some .feedMode) (some sender)

/-- FEED MODE (R111). -/
def execFeedMode (t : Nat) (sender : Ident) (mode : Byte) (s : State) : Host.Outcome State Fault Refusal :=
  (s.observeFor t ⟨.feedMode, sender, [mode]⟩
    ((FeedMode.ofCode mode).map fun m s => s.inOperating fun s => s.setFeedMode sender m)).done

/-- HOLD REQUEST: every station sets its handshake view to REQUESTED (R94), and the feed station yields (R121). -/
def execHoldRequest (t : Nat) (sender : Ident) (serial : Half) (kind index : Byte) (s : State) :
    Host.Outcome State Fault Refusal :=
  (s.observeFor t ⟨.holdRequest, sender, cutBytes serial kind index⟩
    (match CutKind.ofCode kind, OrderIndex.ofCode index with
      | some k, some i => some fun s => s.inStem serial fun s =>
        { s with stem.view := some ⟨k, i, .requested⟩ }.yield_ k i
      | _, _ => none)).done

end Sys2Proof.Machine
end

