-- ==== Sys2Proof/Machine/Saw.lean ====
section
/-! DEFINITION. The Saw Sequencer (Chapter 8): its answers to deliveries and frames, and the commands that are its own:
CUT COMMAND and the four timer expiries. -/

namespace Sys2Proof.Machine

/-- A handshake starts: its record, HOLD REQUEST, REQUESTED (R130, R131). -/
def State.startHandshake (s : State) (r : SawRecord) : State :=
  ({ s with saw.record := some r }.placeHandshake (.holdRequest s.stem.serial r.kind r.index)).sawEnter .requested

/-- The chain is at speed: CUT START with the record's attempt number, DOWN (R135). -/
def State.startCut (s : State) (r : SawRecord) : State :=
  (s.placeHandshake (.cutStart s.stem.serial r.kind r.index r.attempt)).sawEnter .down

/-- The handshake ends: HOLD RELEASE with this outcome, the record cleared, IDLE (R134, R139, R140). -/
def State.endHandshake (s : State) (r : SawRecord) (o : HoldOutcome) : State :=
  ({ s with saw.record := none }.placeHandshake (.holdRelease s.stem.serial r.kind r.index o)).sawEnter .idle

/-- The bar's end in DOWN: CUT DONE with the station's own P, the cut marks handed to the Stem and Order Unit, the cut-done
mark set, RETURN (R137, R108). -/
def State.finishCut (s : State) (r : SawRecord) : State :=
  let s := s.placeHandshake (.cutDone s.stem.serial r.kind r.index s.fusion.p)
  { s with
    stem.offsizeMark := r.offsize
    stem.disputeMark := r.dispute
    saw.record := some { r with cutDone := true } }.sawEnter .ret

/-- The bar is home after a failed attempt: a retry, or the failure of the handshake (R140). -/
def State.settleAttempt (s : State) (r : SawRecord) : State :=
  if r.attempt ≤ s.settings.cutRetries then
    { s with saw.record := some { r with attempt := r.attempt + 1 } }.sawEnter .spin
  else (s.endHandshake r .failed).report .cutFailed none none

/-- Homing of the bar outside a handshake: RETURN with the record absent (R143). -/
def State.startHoming (s : State) : State := { s with saw.record := none }.sawEnter .ret

/-- What a pair of bar flags brings in the handshake state that stands (R137, R139, R140, R143). `first` says that it is
the first delivery since the entry into OPERATING. -/
def State.testFlags (s : State) (first : Bool) (home end_ : Bool) : State :=
  match s.saw.state, s.saw.record with
  | .down, some r => if end_ then s.finishCut r else s
  | .ret, some r =>
    if home then (if r.cutDone then s.endHandshake r .done else s.settleAttempt r) else s
  | .ret, none => if home then s.sawEnter .idle else s
  | .idle, _ => if first ∧ home = false ∧ s.safety.output = .run then s.startHoming else s
  | _, _ => s

/-- A delivery of both bar flags (R11, R127): in OPERATING a SAW station stores them and then tests them. -/
def State.deliverFlags (s : State) (home end_ : Bool) : State :=
  if s.role = .saw ∧ s.phase = .operating then
    { s with saw.lastHome := home, saw.lastEnd := end_, saw.firstDelivery := false }.testFlags
      s.saw.firstDelivery home end_
  else s

/-- A delivery of the chain period (R5, R6, R127): in OPERATING a SAW station stores it, and in SPIN tests it (R135). -/
def State.deliverPeriod (s : State) (period : Option Nat) : State :=
  if s.role = .saw ∧ s.phase = .operating then
    let s := { s with saw.lastPeriod := period }
    match s.saw.state, s.saw.record with
    | .spin, some r => if chainAtSpeed s.settings period then s.startCut r else s
    | _, _ => s
  else s

/-- The sequencer's part in a HALTED that names the ACTIVE order, in IDLE and RUN (R130). -/
def State.sawHalted (s : State) (index : OrderIndex) (p : Int) (offsize : Bool) : State :=
  if s.role = .saw ∧ s.saw.state = .idle ∧ s.safety.output = .run ∧ index.isSome ∧ index = s.activeIndex then
    match s.activeOrder with
    | none => s
    | some o =>
      if s.profile.fused < o.minTop then s.placeHandshake (.orderReject s.stem.serial index .tooThin)
      else s.startHandshake ⟨.order, index, 1, some p, offsize, false, false⟩
  else s

/-- Whether the position check of an ORDER handshake finds a dispute: the two positions differ by more than the margin
(R133). -/
def disputes (σ : Settings) (p : Int) (r : SawRecord) : Bool :=
  match r.kind, r.pFeed with
  | .order, some q => decide (σ.disputeMargin * 1000 < (p - q).natAbs)
  | _, _ => false

/-- A matching grant: the position check, then SPIN, where the period as last delivered is tested at once (R133, R135). -/
def State.granted (s : State) (r : SawRecord) (sender : Ident) : State :=
  let dispute := disputes s.settings s.fusion.p r
  let r := if dispute then { r with dispute := true } else r
  let s := { s with saw.record := some r }
  let s := if dispute then s.report .positionDispute (some .holdGrant) (some sender) else s
  let s := s.sawEnter .spin
  if chainAtSpeed s.settings s.saw.lastPeriod then s.startCut r else s

/-- The sequencer's part in a HOLD GRANT (R133, R134): a matching one in REQUESTED is taken, one in IDLE and RUN is answered
with HOLD RELEASE ABANDONED, any other is ignored. -/
def State.sawGrant (s : State) (sender : Ident) (serial : Half) (kind : CutKind) (index : OrderIndex) : State :=
  if s.role ≠ .saw then s
  else
    match s.saw.state, s.saw.record with
    | .requested, some r => if r.kind = kind ∧ r.index = index then s.granted r sender else s
    | .idle, _ =>
      if s.safety.output = .run then s.placeHandshake (.holdRelease serial kind index .abandoned) else s
    | _, _ => s

/-- Whether a CUT COMMAND of this kind fits the stem state (R131). -/
def cutFits : CutKind → StemState → Bool
  | .fell, .gripped => true
  | .trim, .running | .trim, .atMark | .trim, .topped => true
  | _, _ => false

/-- A CUT COMMAND in a SAW station: accepted in IDLE and RUN where its kind fits the stem state, else refused (R131). -/
def State.commandCut (s : State) (sender : Ident) (kind : CutKind) : State :=
  if s.role ≠ .saw then s
  else if s.saw.state = .idle ∧ s.safety.output = .run ∧ cutFits kind s.stem.state = true then
    s.startHandshake ⟨kind, none, 1, none, false, false, false⟩
  else s.report .commandRefused (some .cutCommand) (some sender)

/-- CUT COMMAND (R131). -/
def execCutCommand (t : Nat) (sender : Ident) (serial : Half) (kind : Byte) (s : State) :
    Host.Outcome State Fault Refusal :=
  (s.observeFor t ⟨.cutCommand, sender, le16 serial ++ [kind]⟩
    ((CutKind.ofCode kind).map fun k s => s.inStem serial fun s => s.commandCut sender k)).done

/-- The grant timer expires in REQUESTED: HOLD RELEASE ABANDONED, IDLE (R134). -/
def execGrantTimerExpiry (t : Nat) (s : State) : Host.Outcome State Fault Refusal :=
  match s.saw.grantTimer, s.saw.record with
  | some due, some r => ((s.clockDue t due).endHandshake r .abandoned).done
  | _, _ => (s.clock t).done

/-- The chain timer expires in SPIN: the attempt has failed, RETURN (R136). -/
def execChainTimerExpiry (t : Nat) (s : State) : Host.Outcome State Fault Refusal :=
  match s.saw.chainTimer with
  | some due => ((s.clockDue t due).sawEnter .ret).done
  | none => (s.clock t).done

/-- The cut timer expires in DOWN: the attempt has failed, no CUT DONE is placed, RETURN (R138). -/
def execCutTimerExpiry (t : Nat) (s : State) : Host.Outcome State Fault Refusal :=
  match s.saw.cutTimer with
  | some due => ((s.clockDue t due).sawEnter .ret).done
  | none => (s.clock t).done

/-- The return timer expires in RETURN: STOP/BAR NOT HOME (R141). -/
def execReturnTimerExpiry (t : Nat) (s : State) : Host.Outcome State Fault Refusal :=
  match s.saw.returnTimer with
  | some due => ((s.clockDue t due).captureStop .barNotHome none none true).done
  | none => (s.clock t).done

end Sys2Proof.Machine
end

