-- ==== Sys2Proof/Machine/Capture.lean ====
section
/-! DEFINITION. The Capture Unit's commands (Chapter 1): the counting and edge commands, the chain period, the end gate and
the sample instant with its conversions and publications. -/

namespace Sys2Proof.Machine

/-! ### Counting (R3) -/

/-- A channel after its line pair has changed: a QUADRATURE channel counts and takes the new pair as its reference, any
other reads nothing (R1, R3). -/
def CapChannel.transition (c : CapChannel) (pair : Bool × Bool) : CapChannel :=
  if c.mode = .quadrature then { c with pair := pair, total := countTransition c.pair pair c.total } else c

/-- A transition of a channel's line pair, in every phase (R3). -/
def execQuadratureTransition (t : Nat) (channel : Fin 3) (line1 line2 : Bool) (s : State) :
    Host.Outcome State Fault Refusal :=
  let s := s.clock t
  (match channel with
    | 0 => { s with capture.cap0 := s.capture.cap0.transition (line1, line2) }
    | 1 => { s with capture.cap1 := s.capture.cap1.transition (line1, line2) }
    | 2 => { s with capture.cap2 := s.capture.cap2.transition (line1, line2) }).done

/-! ### The chain period (R5, R6) -/

/-- The channel after 10 ms without an edge (R6). -/
def CapChannel.expire (c : CapChannel) : CapChannel := { c with lastEdge := none, period := none }

/-- A rising edge with no edge before it: its time is recorded, and nothing is delivered (R5). -/
def State.firstEdge (s : State) : State := { s with capture.cap2.lastEdge := some s.now }

/-- The 10 ms without an edge have passed: period and last edge time "none", and "none" is delivered (R6). -/
def State.expireChain (s : State) : State := { s with capture.cap2 := s.capture.cap2.expire }.deliverPeriod none

/-- A rising edge `gap` µs after the last: the period is the whole µs between them, and it is delivered (R5). A period is at
least 1 µs (R6; notes/assumptions/8.md). -/
def State.nextEdge (s : State) (gap : Nat) : State :=
  { s with capture.cap2.lastEdge := some s.now, capture.cap2.period := some (max 1 gap) }.deliverPeriod
    (some (max 1 gap))

/-- A rising edge on line 1 of the PERIOD channel (R5). An edge more than 10 ms after the last finds the expiry of R6
behind it. -/
def execChainRisingEdge (t : Nat) (s : State) : Host.Outcome State Fault Refusal :=
  let s := s.clock t
  (if s.capture.cap2.mode = .period then
    match s.capture.cap2.lastEdge with
    | none => s.firstEdge
    | some te => if s.now - te ≤ Config.chainSilenceUs then s.nextEdge (s.now - te) else s.expireChain.firstEdge
   else s).done

/-- 10 ms have passed since the last rising edge (R6). -/
def execChainPeriodExpiry (t : Nat) (s : State) : Host.Outcome State Fault Refusal :=
  match s.capture.cap2.lastEdge with
  | some te => (s.clockDue t (te + Config.chainSilenceUs)).expireChain.done
  | none => (s.clock t).done

/-! ### The end gate (R13, R14) -/

/-- A GATE publication with the wheel total as it stands, placed in the GATE slot (R13, R14, R16). -/
def State.publishGate (s : State) : State :=
  { s with
    link.gateSlot := some ⟨.gate s.capture.gateSeq s.capture.cap2.total, 0⟩
    capture.gateSeq := s.capture.gateSeq + 1 }

/-- The gate input goes from CLEAR to BLOCKED: a MEASURE station follows it, and in OPERATING publishes the edge (R13). -/
def execGateBlockEdge (t : Nat) (s : State) : Host.Outcome State Fault Refusal :=
  let s := s.clock t
  (if s.role = .measure ∧ s.capture.gateBlocked = false then
    let s := { s with capture.gateBlocked := true }
    if s.phase = .operating then s.publishGate else s
   else s).done

/-- The gate input goes from BLOCKED to CLEAR: a MEASURE station follows it (R13). -/
def execGateClearEdge (t : Nat) (s : State) : Host.Outcome State Fault Refusal :=
  let s := s.clock t
  (if s.role = .measure then { s with capture.gateBlocked := false } else s).done

/-! ### The sample instant (1.4 to 1.7) -/

/-- The conversions of the station's role (R2, R9, R10, R11). -/
def State.convert (s : State) (an0 an1 an2 an3 : Raw) : State :=
  match s.role with
  | .feed => { s with capture.ownDiameter := ownDiameterOf s.settings an0 }
  | .measure => { s with capture.contact := contactOf s.settings an1 }
  | .knife => { s with capture.ownDiameter := ownDiameterOf s.settings an2 }
  | .saw => { s with capture.barHome := barHomeOf s.settings an3, capture.barEnd := barEndOf s.settings an3 }

/-- A DIAMETER publication in its slot (R15, R16). -/
def State.publishDiameter (s : State) : State :=
  { s with link.diameterSlot := some ⟨.diameter s.capture.ownDiameter, 0⟩ }

/-- A MOTION publication in its slot (R15, R16). -/
def State.publishMotion (s : State) : State :=
  { s with
    link.motionSlot := some ⟨.motion s.capture.motionSeq s.capture.cap2.total s.capture.contact, 0⟩
    capture.motionSeq := s.capture.motionSeq + 1 }

/-- A ROLLER publication in its slot (R15, R16). -/
def State.publishRoller (s : State) : State :=
  { s with
    link.rollerSlot := some ⟨.roller s.capture.rollerSeq s.capture.cap0.total s.capture.cap1.total, 0⟩
    capture.rollerSeq := s.capture.rollerSeq + 1 }

/-- The periodic publications of the role (R15). -/
def State.publish (s : State) : State :=
  match s.role with
  | .feed => s.publishRoller.publishDiameter
  | .measure => s.publishMotion
  | .knife => s.publishDiameter
  | .saw => s

/-- The sample timer expires: conversion, publication, the delivery of the bar flags to the Saw Sequencer, and the approach
of the Feed Controller (R7, R11, R15, R116). -/
def execSampleInstant (t : Nat) (an0 an1 an2 an3 : Raw) (s : State) : Host.Outcome State Fault Refusal :=
  match s.capture.sampleTimer with
  | some due =>
    let s := s.clockDue t due
    let s := { s with capture.sampleTimer := some (s.inMs s.settings.samplePeriod) }
    let s := (s.convert an0 an1 an2 an3).publish
    ((s.deliverFlags s.capture.barHome s.capture.barEnd).approachStep).done
  | none => (s.clock t).done

end Sys2Proof.Machine
end

