-- ==== Sys2Proof/Machine/Stem.lean ====
section
/-! DEFINITION. The Stem and Order Unit (Chapter 6) and the commands it takes part in: STEM OPEN, STEM CLOSE, ORDER, and the
handshake frames HOLD GRANT, HOLD RELEASE, CUT START, CUT DONE, HALTED and ORDER REJECT, with the zero event (R74) and the
log record (R107). -/

namespace Sys2Proof.Machine

/-! ### Opening and closing a stem (6.2) -/

/-- The track initialised for a new stem (R75). -/
def Fusion.open_ (f : Fusion) : Fusion :=
  { f with
    p := 0
    zeroed := false
    gateUsed := false
    logIntervals := 0
    logNonWheel := 0
    nonWheelRun := 0
    degradedReported := false
    emptyRun := 0
    ring := []
    leftSum := 0
    rightSum := 0
    frames := 0
    credit := 0
    verdict := .none }

/-- A stem is opened under a serial (R91, R75, R84, R87). -/
def State.openStem (s : State) (serial : Half) : State :=
  { s with
    stem.serial := serial
    stem.orders := Vector.replicate 12 none
    stem.logNumber := 0
    stem.returnState := none
    stem.closePending := false
    stem.view := none
    stem.offsizeMark := false
    stem.disputeMark := false
    fusion := s.fusion.open_
    profile := { s.profile.clear with thinTravel := 0 } }.enterStem .gripped

/-- STEM OPEN (R91). -/
def execStemOpen (t : Nat) (sender : Ident) (serial : Half) (s : State) : Host.Outcome State Fault Refusal :=
  (s.observeFor t ⟨.stemOpen, sender, le16 serial⟩ (some fun s => s.inOperating fun s =>
    if s.stem.state = .noStem then s.openStem serial
    else s.report .stemBusy (some .stemOpen) (some sender))).done

/-- STEM CLOSE: taken at once outside CUTTING, deferred in CUTTING (R92, R93). -/
def execStemClose (t : Nat) (sender : Ident) (serial : Half) (s : State) : Host.Outcome State Fault Refusal :=
  (s.observeFor t ⟨.stemClose, sender, le16 serial⟩ (some fun s => s.inStem serial fun s =>
    if s.stem.state = .cutting then { s with stem.closePending := true } else s.closeStem)).done

/-! ### Orders (6.5) -/

/-- The order a frame carries, held to its limits, PENDING (R104). -/
def orderOf (target : Half) (tolMinus tolPlus : Byte) (minTop : Half) (grade : Byte) : Order where
  target := target.toNat
  tolMinus := min 100 tolMinus.toNat
  tolPlus := min 100 tolPlus.toNat
  minTop := min 600 minTop.toNat
  grade := min 15 grade.toNat
  status := .pending

/-- Whether a slot takes a new order: it is empty or holds a PENDING one (R104). -/
def slotFree (slot : Option Order) : Bool :=
  match slot with
  | none => true
  | some o => decide (o.status = .pending)

/-- An ORDER checked against its limits and its slot (R104). -/
def State.takeOrder (s : State) (sender : Ident) (index : Byte) (o : Order) : State :=
  if h : index.toNat < 12 then
    if 300 ≤ o.target ∧ o.target ≤ 30000 ∧ slotFree s.stem.orders[index.toNat] = true then
      State.activate { s with stem.orders := s.stem.orders.set index.toNat (some o) }
    else s.report .orderRefused (some .order) (some sender)
  else s.report .orderRefused (some .order) (some sender)

/-- ORDER (R104). -/
def execOrder (t : Nat) (sender : Ident) (serial : Half) (index : Byte) (target : Half) (tolMinus tolPlus : Byte)
    (minTop : Half) (grade : Byte) (s : State) : Host.Outcome State Fault Refusal :=
  (s.observeFor t
    ⟨.order, sender, le16 serial ++ [index] ++ le16 target ++ [tolMinus, tolPlus] ++ le16 minTop ++ [grade]⟩
    (some fun s => s.inStem serial fun s =>
      s.takeOrder sender index (orderOf target tolMinus tolPlus minTop grade))).done

/-! ### Following the handshake (6.3) -/

/-- Whether a grant of this kind takes the stem state into CUTTING (R95). -/
def grantFits : StemState → CutKind → Bool
  | .gripped, .fell => true
  | .running, .trim | .running, .order | .atMark, .trim | .atMark, .order | .topped, .trim | .topped, .order => true
  | _, _ => false

/-- The Stem and Order Unit's part in a HOLD GRANT (R95). -/
def State.stemGrant (s : State) (kind : CutKind) (index : OrderIndex) : State :=
  if grantFits s.stem.state kind then
    { s with
      stem.returnState := some s.stem.state
      stem.view := some ⟨kind, index, .requested⟩ }.enterStem .cutting
  else s

/-- HOLD GRANT: the Stem and Order Unit of every station (R95) and the Saw Sequencer (R133, R134). -/
def execHoldGrant (t : Nat) (sender : Ident) (serial : Half) (kind index : Byte) (s : State) :
    Host.Outcome State Fault Refusal :=
  (s.observeFor t ⟨.holdGrant, sender, cutBytes serial kind index⟩
    (match CutKind.ofCode kind, OrderIndex.ofCode index with
      | some k, some i => some fun s => s.inStem serial fun s => (s.stemGrant k i).sawGrant sender serial k i
      | _, _ => none)).done

/-- The progress of the view raised, the view created from the frame where it is absent (R94, R97). -/
def StemUnit.progressTo (u : StemUnit) (kind : CutKind) (index : OrderIndex) (p : Progress) : StemUnit :=
  { u with
    view := some (match u.view with
      | some v => { v with progress := p }
      | none => ⟨kind, index, p⟩) }

/-- CUT START (R94). -/
def execCutStart (t : Nat) (sender : Ident) (serial : Half) (kind index attempt : Byte) (s : State) :
    Host.Outcome State Fault Refusal :=
  (s.observeFor t ⟨.cutStart, sender, cutBytes serial kind index ++ [attempt]⟩
    (match CutKind.ofCode kind, OrderIndex.ofCode index with
      | some k, some i => some fun s => s.inStem serial fun s => { s with stem := s.stem.progressTo k i .started }
      | _, _ => none)).done

/-- HALTED: the Stem and Order Unit enters AT MARK for its ACTIVE order (R96), and the Saw Sequencer judges the halt
(R130). -/
def State.stemHalted (s : State) (index : OrderIndex) : State :=
  if s.stem.state = .running ∧ index.isSome ∧ index = s.activeIndex then s.enterStem .atMark else s

/-- HALTED (R96, R130). -/
def execHalted (t : Nat) (sender : Ident) (serial : Half) (index : Byte) (p : Word) (offsize : Byte) (s : State) :
    Host.Outcome State Fault Refusal :=
  (s.observeFor t ⟨.halted, sender, le16 serial ++ [index] ++ le32 p ++ [offsize]⟩
    (match OrderIndex.ofCode index, flagOfCode offsize with
      | some i, some o => some fun s => s.inStem serial fun s => (s.sawHalted i (signed32 p) o).stemHalted i
      | _, _ => none)).done

/-- ORDER REJECT: the order REJECTED, AT MARK left for RUNNING, activation considered (R100). -/
def State.rejectOrder (s : State) (index : OrderIndex) : State :=
  let s := { s with stem.orders := finishOrder s.stem.orders index .rejected }
  (if s.stem.state = .atMark then s.enterStem .running else s).activate

/-- ORDER REJECT (R100). -/
def execOrderReject (t : Nat) (sender : Ident) (serial : Half) (index reason : Byte) (s : State) :
    Host.Outcome State Fault Refusal :=
  (s.observeFor t ⟨.orderReject, sender, le16 serial ++ [index, reason]⟩
    (match OrderIndex.ofCode index, RejectReason.ofCode reason with
      | some i, some _ => some fun s => s.inStem serial fun s => s.rejectOrder i
      | _, _ => none)).done

/-- The queue after the outcome of a HOLD RELEASE: FAILED interrupts the order of an ORDER cut (R98, R99). -/
def StemUnit.applyOutcome (u : StemUnit) (kind : CutKind) (index : OrderIndex) (o : HoldOutcome) : StemUnit :=
  if kind = .order ∧ o = .failed then { u with orders := finishOrder u.orders index .interrupted } else u

/-- The stem state a HOLD RELEASE leaves CUTTING for (R98). -/
def releaseTarget (u : StemUnit) (o : HoldOutcome) : StemState :=
  match u.returnState with
  | some .topped => .topped
  | some .gripped =>
    if o = .done then .running
    else
      match u.view with
      | some v => if v.progress = .done then .running else .gripped
      | none => .gripped
  | _ => .running

/-- The Stem and Order Unit's part in a HOLD RELEASE (R98 in CUTTING, R99 outside it). -/
def State.stemRelease (s : State) (kind : CutKind) (index : OrderIndex) (o : HoldOutcome) : State :=
  let s := { s with stem := s.stem.applyOutcome kind index o }
  if s.stem.state = .cutting then s.leaveCutting (releaseTarget s.stem o)
  else
    let s := { s with stem.view := none }
    (if s.stem.state = .atMark ∨ (s.stem.state = .gripped ∧ kind = .fell ∧ o = .done) then s.enterStem .running
     else s).activate

/-- HOLD RELEASE: the Feed Controller's hold ends (R123), and the Stem and Order Unit leaves CUTTING or applies the outcome
(R98, R99). -/
def execHoldRelease (t : Nat) (sender : Ident) (serial : Half) (kind index outcome : Byte) (s : State) :
    Host.Outcome State Fault Refusal :=
  (s.observeFor t ⟨.holdRelease, sender, cutBytes serial kind index ++ [outcome]⟩
    (match CutKind.ofCode kind, OrderIndex.ofCode index, HoldOutcome.ofCode outcome with
      | some k, some i, some o => some fun s => s.inStem serial fun s =>
        ({ s with feed := s.feed.released o }).stemRelease k i o
      | _, _, _ => none)).done

/-! ### The completed cut (R97, R74, R107) -/

/-- The log record of the cut, from the track and the profile of the log it ends (R107, R85). -/
def State.logRecordOf (s : State) (kind : CutKind) (index : OrderIndex) : LogRecord where
  serial := s.stem.serial
  logNumber := s.stem.logNumber
  kind := kind
  index := index
  lengthMm := logLengthOf s.fusion.p
  offsize := s.stem.offsizeMark
  dispute := s.stem.disputeMark
  gateUsed := s.fusion.gateUsed
  nonWheel := s.fusion.logNonWheel
  butt := bucketOrBelow s.profile.buckets 0
  mid := bucketOrBelow s.profile.buckets (logLengthOf s.fusion.p / 200)
  top := s.profile.fused

/-- Building the record queues it and clears both cut marks (R108). -/
def State.buildLog (s : State) (kind : CutKind) (index : OrderIndex) : State :=
  { s.placeLog (s.logRecordOf kind index) with stem.offsizeMark := false, stem.disputeMark := false }

/-- The track at a zero event (R74, R61). -/
def Fusion.zeroEvent (f : Fusion) : Fusion :=
  { f with
    p := 0
    zeroed := true
    gateUsed := false
    logIntervals := 0
    logNonWheel := 0
    working := f.staged }

/-- The zero event in the Length Fusion Unit, the Profile Unit and the Feed Controller (R74, R84, R116). -/
def State.zeroEvent (s : State) : State :=
  { s with fusion := s.fusion.zeroEvent, profile := s.profile.clear, feed := s.feed.zeroEvent }

/-- A CUT DONE: the log number, in a SAW station the log record of its own cut, the order CUT, the view DONE; then the zero
event, and activation considered (R97, R74, R107). -/
def State.takeCutDone (s : State) (sender : Ident) (kind : CutKind) (index : OrderIndex) : State :=
  let s := { s with stem.logNumber := satAdd s.stem.logNumber 1 }
  let s := if s.role = .saw ∧ sender = s.identity then s.buildLog kind index else s
  let s := if kind = .order then { s with stem.orders := finishOrder s.stem.orders index .cut } else s
  let s := { s with stem := s.stem.progressTo kind index .done }
  s.zeroEvent.activate

/-- CUT DONE (R97). -/
def execCutDone (t : Nat) (sender : Ident) (serial : Half) (kind index : Byte) (pAtCut : Word) (s : State) :
    Host.Outcome State Fault Refusal :=
  (s.observeFor t ⟨.cutDone, sender, cutBytes serial kind index ++ le32 pAtCut⟩
    (match CutKind.ofCode kind, OrderIndex.ofCode index with
      | some k, some i => some fun s => s.inStem serial fun s => s.takeCutDone sender k i
      | _, _ => none)).done

end Sys2Proof.Machine
end

