-- ==== Sys2Proof/Machine/Profile.lean ====
section
/-! DEFINITION. The Profile Unit (Chapter 5): the fused diameter, the stem profile, top detection, and the commands DIAMETER
and DIAMETER_AGED. -/

namespace Sys2Proof.Machine

/-- The fused diameter at a recomputation, the first line that applies (R79). -/
def fusedOf (σ : Settings) (now : Nat) (p : Profile) : Nat :=
  let recent (v : Option SourceValue) : Option Nat :=
    match v with
    | some v => if isRecent σ now v then some v.mm else none
    | none => none
  match recent p.knife, recent p.feed with
  | some k, some f => (k + f) / 2
  | some k, none => k
  | none, some f => f
  | none, none => p.fused

/-- The fused diameter and its class recomputed; at or above the top diameter thin travel is set to 0 (R79, R80, R87). -/
def State.recompute (s : State) : State :=
  let fused := fusedOf s.settings s.now s.profile
  { s with
    profile.fused := fused
    profile.diameterClass := diameterClassOf fused
    profile.thinTravel := if s.settings.topDiameter ≤ fused then 0 else s.profile.thinTravel }

/-- The top reported: every PENDING and ACTIVE order ABANDONED, TOPPED (R101). -/
def State.reportTop (s : State) : State :=
  { s with stem.orders := abandonOrders s.stem.orders }.enterStem .topped

/-- Thin travel after a forward close, and the top it may report (R86, R88). -/
def State.countThin (s : State) (change : Int) : State :=
  if s.stem.state = .running ∧ s.fusion.zeroed = true ∧ s.profile.fused < s.settings.topDiameter then
    let s := { s with profile.thinTravel := s.profile.thinTravel + change.toNat }
    if s.settings.topTravel * 1000 ≤ s.profile.thinTravel then s.reportTop else s
  else s

/-- The hand-over of a close that moved P: a forward one fills the buckets up to the new P and then counts thin travel
(R82, R83, R86). When within the close it comes is notes/assumptions/23.md. -/
def State.handOver (s : State) (change : Int) : State :=
  if 0 < change then
    { s with profile.buckets := fillBuckets s.profile.buckets s.fusion.p s.profile.fused }.countThin change
  else s

/-- A DIAMETER delivery: a value above 900 mm is taken as 900 mm, and the sender's role says which source it replaces
(R49, R78). -/
def State.takeDiameter (s : State) (role : PeerRole) (mm : Half) : State :=
  let v : SourceValue := ⟨min 900 mm.toNat, s.now⟩
  match role with
  | .d226 .knife => { s with profile.knife := some v }.recompute
  | .d226 .feed => { s with profile.feed := some v }.recompute
  | _ => s

/-- DIAMETER (R49, R78, R79). -/
def execDiameter (t : Nat) (sender : Ident) (mm : Half) (s : State) : Host.Outcome State Fault Refusal :=
  (s.observeFor t ⟨.diameter, sender, le16 mm⟩ (some fun s => s.inOperating fun s =>
    s.takeDiameter s.peers[sender].role mm)).done

/-- The stored value of a source. -/
def Profile.source (p : Profile) : DiameterSource → Option SourceValue
  | .knife => p.knife
  | .feed => p.feed

/-- A stored source value becomes old when 3 × T_s have passed since its arrival: the fused diameter is recomputed (R79). -/
def execDiameterAged (t : Nat) (source : DiameterSource) (s : State) : Host.Outcome State Fault Refusal :=
  match s.profile.source source with
  | some v =>
    if s.phase = .operating then
      (s.clockDue t (v.at_ + ms (3 * s.settings.samplePeriod))).recompute.done
    else (s.clock t).done
  | none => (s.clock t).done

end Sys2Proof.Machine
end

