-- ==== Sys2Proof/Machine/Fusion.lean ====
section
/-! DEFINITION. The Length Fusion Unit (Chapter 4): moving P, the closes on MOTION and on timeout, the gate correction and
the calibration writes; the commands MOTION, ROLLER, GATE, CLOSING_TIMER_EXPIRY, CAL_VALUE and CAL_KEY, with what the Peer
Table takes from the first three (3.4, 3.5). -/

namespace Sys2Proof.Machine

/-! ### The track -/

/-- The wheel distance of `n` counts at the class and correction as they stand (R56). -/
def State.wheelDistance (s : State) (n : Int) : Int :=
  wheelDistanceOf s.settings.wheelScale (calLookup s.fusion.working s.profile.diameterClass) n

/-- P moved by a change, held to its range, with DEGRADE/POSITION CLAMPED where the sum lies outside it (R53). -/
def State.moveP (s : State) (change : Int) (cls : Option FrameClass) (sender : Option Ident) : State :=
  let sum := s.fusion.p + change
  let s := { s with fusion.p := clampInt Config.pMin Config.pMax sum }
  if sum < Config.pMin ∨ Config.pMax < sum then s.report .positionClamped cls sender else s

/-- The chosen distance of a close applied to P while the track is live, and the change actually made handed to the Profile
Unit (R66). The hand-over is made here, before the close's counts and its test for TRACK DEGRADED: the manual leaves the
order between them open, DESIGN CHOICE (notes/assumptions/23.md). -/
def State.applyChosen (s : State) (chosen : Int) (cls : Option FrameClass) (sender : Option Ident) : State :=
  if s.live then
    let s' := s.moveP chosen cls sender
    s'.handOver (s'.fusion.p - s.fusion.p)
  else s

/-- The change a chosen distance makes to P: 0 while the track is not live (R69). -/
def State.changeOf (s : State) (chosen : Int) : Int :=
  if s.live then clampInt Config.pMin Config.pMax (s.fusion.p + chosen) - s.fusion.p else 0

/-- Whether a verdict counts as non-wheel (R67, R69). -/
def isNonWheel : Verdict → Bool
  | .lift | .wheelOverrun | .conflict | .rollerTimeout => true
  | .none | .agree | .rollerSlip | .wheelOnly | .empty => false

/-- The counts of the track after a close that is not EMPTY (R67, R69). -/
def Fusion.countClose (f : Fusion) (v : Verdict) : Fusion :=
  { f with
    verdict := v
    logIntervals := satAdd f.logIntervals 1
    logNonWheel := if isNonWheel v then satAdd f.logNonWheel 1 else f.logNonWheel
    nonWheelRun := if isNonWheel v then satAdd f.nonWheelRun 1 else 0
    degradedReported := if isNonWheel v then f.degradedReported else false
    emptyRun := 0 }

/-- The report of a long non-wheel run on a live track, once (R67). -/
def State.reportDegraded (s : State) (cls : Option FrameClass) (sender : Option Ident) : State :=
  if Config.degradedRun ≤ s.fusion.nonWheelRun ∧ s.live = true ∧ s.fusion.degradedReported = false then
    { s.report .trackDegraded cls sender with fusion.degradedReported := true }
  else s

/-- The end of a close: the accumulator emptied and the closing timer restarted (R54, R62, R68). -/
def State.endClose (s : State) : State :=
  { s with
    fusion.leftSum := 0
    fusion.rightSum := 0
    fusion.frames := 0
    fusion.closing := some (s.inMs (3 * s.settings.samplePeriod)) }

/-- A close on MOTION with a wheel delta and a contact flag (R62 to R67). The Profile Unit is handed the change within
`applyChosen`, before the counts of R67 and the capture of TRACK DEGRADED: DESIGN CHOICE (notes/assumptions/23.md). -/
def State.closeMotion (s : State) (sender : Ident) (dW : Int) (contact : Bool) : State :=
  let w := s.wheelDistance dW - s.fusion.credit
  let j := judge s.settings s.fusion.ring w (rollerDistanceOf s.settings.rollerScale s.fusion) contact
  let s := { s with fusion.ring := j.ring }
  let s := s.applyChosen j.chosen (some .motion) (some sender)
  let s := { s with fusion := s.fusion.countClose j.verdict }
  let s := s.reportDegraded (some .motion) (some sender)
  { s with fusion.credit := 0 }.endClose

/-- A timeout close with roller arrivals: ROLLER TIMEOUT (R69), with the hand-over placed as in `closeMotion`
(notes/assumptions/23.md). -/
def State.closeRoller (s : State) (r : Int) : State :=
  let change := s.changeOf r
  let s := { s with fusion.ring := pushRing s.fusion.ring ⟨none, some r⟩ }
  let s := s.applyChosen r none none
  let s := { s with fusion.credit := s.fusion.credit + change }
  let s := { s with fusion := s.fusion.countClose .rollerTimeout }
  (s.reportDegraded none none).endClose

/-- The track is lost after an EMPTY close with the empty run at 8 or more on a zeroed track; the feed mode drops to MANUAL
(R71, R112). -/
def State.loseTrack (s : State) : State :=
  if Config.lostRun ≤ s.fusion.emptyRun ∧ s.fusion.zeroed = true then
    let s := { s with fusion.zeroed := false }.report .trackLost none none
    { s with feed := s.feed.toManual }
  else s

/-- A timeout close without arrivals: EMPTY (R70). -/
def State.closeEmpty (s : State) : State :=
  ({ s with fusion.verdict := .empty, fusion.emptyRun := satAdd s.fusion.emptyRun 1 }.loseTrack).endClose

/-- The closing timer expires and closes the interval (R68). -/
def execClosingTimerExpiry (t : Nat) (s : State) : Host.Outcome State Fault Refusal :=
  match s.fusion.closing with
  | some due =>
    let s := s.clockDue t due
    match rollerDistanceOf s.settings.rollerScale s.fusion with
    | some r => (s.closeRoller r).done
    | none => s.closeEmpty.done
  | none => (s.clock t).done

/-! ### MOTION -/

/-- What a qualifying MOTION frame gives: the mark that a baseline was taken, or a wheel delta (R44, R45). -/
inductive WheelDelivery where
  | baseline | delta (dW : Int)
  deriving DecidableEq, Repr

/-- The sequence check of a qualifying frame: the missed frames are counted, with NOTICE/SEQ GAP (R46). -/
def State.countGap (s : State) (cls : FrameClass) (sender : Ident) (skipped : Nat) : State :=
  if skipped = 0 then s
  else
    (s.setPeer sender { s.peers[sender] with gapCount := satAdd s.peers[sender].gapCount skipped }).report .seqGap
      (some cls) (some sender)

/-- Whether a MOTION or GATE frame, or a ROLLER frame, is from an entry whose role publishes it and which carries no
CONFLICT mark (R43). -/
def publishes (p : Peer) (role : Role) : Bool := decide (p.role = .d226 role) && !p.conflict

/-- What the Peer Table takes from a MOTION frame (R43 to R46). -/
def State.takeMotion (s : State) (sender : Ident) (seq : Byte) (total : Word) : State × WheelDelivery :=
  let p := s.peers[sender]
  let stored := { p with wheelTotal := total, motionSeq := some seq, baselinePending := false }
  if p.baselinePending then (s.setPeer sender stored, .baseline)
  else ((s.setPeer sender stored).countGap .motion sender (seqSkipped p.motionSeq seq),
    .delta (deltaOf p.wheelTotal total))

/-- A MOTION delivery in the Length Fusion Unit (R51, R62). -/
def State.deliverWheel (s : State) (sender : Ident) (contact : Bool) : WheelDelivery → State
  | .baseline => if s.phase = .operating then { s with fusion.credit := 0 } else s
  | .delta dW => if s.phase = .operating then s.closeMotion sender dW contact else s

/-- MOTION (R43 to R47, R62). -/
def execMotion (t : Nat) (sender : Ident) (seq : Byte) (total : Word) (contact : Byte) (s : State) :
    Host.Outcome State Fault Refusal :=
  (s.observe t ⟨.motion, sender, [seq] ++ le32 total ++ [contact]⟩ fun _ s =>
    match flagOfCode contact with
    | some c =>
      if publishes s.peers[sender] .measure then
        let (s, d) := s.takeMotion sender seq total
        s.deliverWheel sender c d
      else s
    | none => s).done

/-! ### ROLLER -/

/-- A ROLLER arrival adds its deltas to the accumulator (R54). -/
def Fusion.arrive (f : Fusion) (left right : Int) : Fusion :=
  { f with leftSum := f.leftSum + left, rightSum := f.rightSum + right, frames := satAdd f.frames 1 }

/-- What the Peer Table takes from a ROLLER frame, with the deltas it gives, `none` for a baseline (R43 to R46). -/
def State.takeRoller (s : State) (sender : Ident) (seq : Byte) (left right : Word) : State × Option (Int × Int) :=
  let p := s.peers[sender]
  let stored := { p with leftTotal := left, rightTotal := right, rollerSeq := some seq, baselinePending := false }
  if p.baselinePending then (s.setPeer sender stored, none)
  else ((s.setPeer sender stored).countGap .roller sender (seqSkipped p.rollerSeq seq),
    some (deltaOf p.leftTotal left, deltaOf p.rightTotal right))

/-- A ROLLER delivery: the deltas go to the accumulator in OPERATING (R51, R54), and those of the station's own frames, or
the mark that a baseline was taken, to the Feed Controller (R47, R115). -/
def State.deliverRoller (s : State) (sender : Ident) (d : Option (Int × Int)) : State :=
  let s :=
    match d with
    | some (l, r) => if s.phase = .operating then { s with fusion := s.fusion.arrive l r } else s
    | none => s
  if sender = s.identity then s.feedRoller (decide (d = some (0, 0))) else s

/-- ROLLER (R43 to R47, R54, R115). -/
def execRoller (t : Nat) (sender : Ident) (seq : Byte) (left right : Word) (s : State) :
    Host.Outcome State Fault Refusal :=
  (s.observe t ⟨.roller, sender, [seq] ++ le32 left ++ le32 right⟩ fun _ s =>
    if publishes s.peers[sender] .feed then
      let (s, d) := s.takeRoller sender seq left right
      s.deliverRoller sender d
    else s).done

/-! ### GATE -/

/-- What the Peer Table takes from a GATE frame, with the edge offset it delivers (R46, R48). -/
def State.takeGate (s : State) (sender : Ident) (seq : Byte) (total : Word) : State × Option Int :=
  let p := s.peers[sender]
  ((s.setPeer sender { p with gateSeq := some seq }).countGap .gate sender (seqSkipped p.gateSeq seq),
    if p.baselinePending then none else some (deltaOf p.wheelTotal total))

/-- The gate correction for an edge offset (R72, R73). -/
def State.correctGate (s : State) (sender : Ident) (offset : Int) : State :=
  if s.live = true ∧ s.fusion.gateUsed = false then
    let e := (s.settings.gateOffset : Int) * 1000 - (s.fusion.p - s.fusion.credit + s.wheelDistance offset)
    let s :=
      if e.natAbs ≤ s.settings.gateWindow * 1000 then s.moveP e (some .gate) (some sender)
      else s.report .gateImplausible (some .gate) (some sender)
    { s with fusion.gateUsed := true }
  else s

/-- GATE (R43, R46, R48, R72). -/
def execGate (t : Nat) (sender : Ident) (seq : Byte) (total : Word) (s : State) : Host.Outcome State Fault Refusal :=
  (s.observe t ⟨.gate, sender, [seq] ++ le32 total⟩ fun _ s =>
    if publishes s.peers[sender] .measure then
      let (s, d) := s.takeGate sender seq total
      match d with
      | some offset => s.inOperating fun s => s.correctGate sender offset
      | none => s
    else s).done

/-! ### The calibration table (4.4) -/

/-- A write to the staged copy of an entry that exists, else NOTICE/SETTING REFUSED (R58, R59). -/
def State.writeStaged (s : State) (sender : Ident) (entry : Byte) (e : CalEntry → Option CalEntry) : State :=
  if h : entry.toNat < 8 then
    match e s.fusion.staged[entry.toNat] with
    | some x => { s with fusion.staged := s.fusion.staged.set entry.toNat x }
    | none => s.report .settingRefused (some .cal) (some sender)
  else s.report .settingRefused (some .cal) (some sender)

/-- CAL with field VALUE: the value of a staged entry, held to −500 to +500 (R58). -/
def execCalValue (t : Nat) (sender : Ident) (entry : Byte) (value : Half) (s : State) :
    Host.Outcome State Fault Refusal :=
  (s.observeFor t ⟨.cal, sender, [entry, 0] ++ le16 value⟩ (some fun s =>
    s.writeStaged sender entry fun e => some { e with value := clampInt (-500) 500 (signed16 value) })).done

/-- CAL with field KEY: the key of a staged entry, 0 to 15, which also enables it; another key is refused (R59). -/
def execCalKey (t : Nat) (sender : Ident) (entry : Byte) (value : Half) (s : State) :
    Host.Outcome State Fault Refusal :=
  (s.observeFor t ⟨.cal, sender, [entry, 1] ++ le16 value⟩ (some fun s =>
    s.writeStaged sender entry fun e =>
      if 0 ≤ signed16 value ∧ signed16 value ≤ 15 then some { e with key := (signed16 value).toNat, enabled := true }
      else none)).done

end Sys2Proof.Machine
end

