-- ==== Sys2Proof/Machine/Link.lean ====
section
/-! DEFINITION. The Link Controller's own commands (Chapter 2): LINE_IDLE with the internal transmit arbiter,
ARBITRATION_LOST, FRAME_DISTURBED, TRANSMIT_COMPLETE, LINK_CHECK_FAIL and KEEP_ALIVE_EXPIRY. -/

namespace Sys2Proof.Machine

/-! ### The transmit sources (R28, R29) -/

/-- Every transmit source. -/
def TxSource.all : List TxSource :=
  [.stop, .handshake, .motion, .roller, .gate, .diameter, .fault, .log, .answer, .announce]

/-- The frame a source has to offer: the one in its slot, or the oldest of its FIFO (R29). -/
def Link.head (l : Link) : TxSource → Option TxFrame
  | .stop => l.stopSlot
  | .handshake => l.handshake.head?
  | .motion => l.motionSlot
  | .roller => l.rollerSlot
  | .gate => l.gateSlot
  | .diameter => l.diameterSlot
  | .fault => l.faultSlot
  | .log => l.logFifo.head?
  | .answer => l.answerSlot
  | .announce => l.announceSlot

/-- The frames pending for the arbiter's choice, each with its source (R29). -/
def Link.candidates (l : Link) : List (TxSource × TxFrame) :=
  TxSource.all.filterMap fun src => (l.head src).map fun f => (src, f)

/-- The candidate of lowest class (R29). -/
def lowestClass : List (TxSource × TxFrame) → Option (TxSource × TxFrame)
  | [] => none
  | c :: cs =>
    match lowestClass cs with
    | none => some c
    | some d => if d.2.frame.cls.number < c.2.frame.cls.number then some d else some c

/-- The frame taken onto the line. A slot that replaces is free from then on (R16, R29); a frame of a FIFO, the answer slot
or the ANNOUNCE slot stays there until it completes or is dropped (notes/assumptions/7.md). -/
def Link.vacate (l : Link) : TxSource → Link
  | .stop => { l with stopSlot := none }
  | .motion => { l with motionSlot := none }
  | .roller => { l with rollerSlot := none }
  | .gate => { l with gateSlot := none }
  | .diameter => { l with diameterSlot := none }
  | .fault => { l with faultSlot := none }
  | .handshake | .log | .answer | .announce => l

/-- What a slot that replaces holds after a frame returns to it: the newer frame where there is one, else the returning
frame (R16, R29). -/
def returned (slot : Option TxFrame) (f : TxFrame) : Option TxFrame :=
  match slot with
  | some newer => some newer
  | none => some f

/-- A frame that was on the line returns to its source with the count it now has (R21, R22, R29). -/
def Link.putBack (l : Link) (src : TxSource) (f : TxFrame) : Link :=
  match src with
  | .stop => { l with stopSlot := returned l.stopSlot f }
  | .motion => { l with motionSlot := returned l.motionSlot f }
  | .roller => { l with rollerSlot := returned l.rollerSlot f }
  | .gate => { l with gateSlot := returned l.gateSlot f }
  | .diameter => { l with diameterSlot := returned l.diameterSlot f }
  | .fault => { l with faultSlot := returned l.faultSlot f }
  | .handshake => { l with handshake := f :: l.handshake.tail }
  | .log => { l with logFifo := f :: l.logFifo.tail }
  | .answer => { l with answerSlot := some f }
  | .announce => { l with announceSlot := some f }

/-- A frame that was on the line leaves its source for good: it has completed, or it is dropped (R22, R29). -/
def Link.remove (l : Link) : TxSource → Link
  | .handshake => { l with handshake := l.handshake.tail }
  | .log => { l with logFifo := l.logFifo.tail }
  | .answer => { l with answerSlot := none }
  | .announce => { l with announceSlot := none }
  | .stop | .motion | .roller | .gate | .diameter | .fault => l

/-! ### The line -/

/-- The arbiter's offer on an idle line: the pending frame of lowest class is taken onto the line (R29). -/
def Link.offer (l : Link) : Link :=
  match lowestClass l.candidates with
  | some (src, f) => { l.vacate src with onLine := some (src, f), lineIdle := false }
  | none => { l with lineIdle := true }

/-- The line is idle and the station may begin a frame (R18, R29; notes/assumptions/6.md). In SILENT it does not drive the
line. -/
def execLineIdle (t : Nat) (s : State) : Host.Outcome State Fault Refusal :=
  let s := s.clock t
  (if s.phase = .silent then { s with link.lineIdle := true }
   else if s.link.onLine = none then { s with link := s.link.offer }
   else s).done

/-- Arbitration is lost while the key is sent: the frame returns to its source, and nothing is counted (R21). -/
def execArbitrationLost (t : Nat) (s : State) : Host.Outcome State Fault Refusal :=
  let s := s.clock t
  (match s.link.onLine with
    | some (src, f) => { s with link := { s.link.putBack src f with onLine := none } }
    | none => s).done

/-- A frame is dropped: it leaves its source, DEGRADE/TX FAILING is captured, and a dropped ANNOUNCE with the repeat mark
set brings a fresh one (R22, R33). -/
def State.dropFrame (s : State) (src : TxSource) (f : TxFrame) : State :=
  let s := { s with link := s.link.remove src }
  let s := s.report .txFailing (some f.frame.cls) (some s.identity)
  if src = .announce then s.repeatAnnounce else s

/-- A frame is disturbed after its key: a failed attempt is counted, and the frame returns, or is dropped when its count
has reached 32 (R22). -/
def State.failAttempt (s : State) (src : TxSource) (f : TxFrame) : State :=
  let s := { s with link.onLine := none, link.txFailures := satAdd s.link.txFailures 1 }
  let f := { f with attempts := f.attempts + 1 }
  if f.attempts < Config.maxAttempts then { s with link := s.link.putBack src f } else s.dropFrame src f

/-- The frame on the line is disturbed (R22). -/
def execFrameDisturbed (t : Nat) (s : State) : Host.Outcome State Fault Refusal :=
  let s := s.clock t
  (match s.link.onLine with
    | some (src, f) => s.failAttempt src f
    | none => s).done

/-- An own frame completes: it leaves its source, the keep-alive timer starts again, the frame is about to be observed, and
an ANNOUNCE with the repeat mark set is followed by a fresh one (R23, R32, R33; notes/assumptions/3.md). -/
def State.completeFrame (s : State) (src : TxSource) (f : TxFrame) : State :=
  let s := { s with link := { s.link.remove src with onLine := none, ownCompleted := some (f.frame.raw s.identity) } }
  let s := s.startKeepAlive
  if src = .announce then s.repeatAnnounce else s

/-- The station's frame on the line completes (R23). -/
def execTransmitComplete (t : Nat) (s : State) : Host.Outcome State Fault Refusal :=
  let s := s.clock t
  (match s.link.onLine with
    | some (src, f) => s.completeFrame src f
    | none => s).done

/-- A received frame fails its check: the check-failure count rises and NOTICE/LINK CHECK is captured without a cause
(R20). The reason has no effect. -/
def execLinkCheckFail (t : Nat) (_why : CheckFailure) (s : State) : Host.Outcome State Fault Refusal :=
  let s := s.clock t
  ({ s with link.lineIdle := false, link.checkFailures := satAdd s.link.checkFailures 1 }.report .linkCheck none
    none).done

/-- The keep-alive timer expires: ANNOUNCE is called for, and the timer starts again (R32). -/
def execKeepAliveExpiry (t : Nat) (s : State) : Host.Outcome State Fault Refusal :=
  match s.link.keepAlive with
  | some due => ((s.clockDue t due).callAnnounce.startKeepAlive).done
  | none => (s.clock t).done

end Sys2Proof.Machine
end

