-- ==== Sys2Proof/Machine/Peers.lean ====
section
/-! DEFINITION. The Peer Table's own commands (Chapter 3): ANNOUNCE, PEER_SILENCE_TIMEOUT and OTHER_FRAME_OBSERVED. What
the table does for every observed frame is `State.observe`; what it takes from MOTION, ROLLER and GATE stands with those
commands. -/

namespace Sys2Proof.Machine

/-- The entry after a valid ANNOUNCE has set its role, phase and stem state; a change of role makes a new baseline due
(R38). -/
def Peer.announced (p : Peer) (role : PeerRole) (phase : Phase) (stem : StemState) : Peer :=
  let q := if p.role = role then p else p.rebaseline
  { q with role := role, phase := phase, stem := stem }

/-- Whether a role is held by another station than the one with this identity: by the SELF entry, or by a PRESENT entry
without the CONFLICT mark (R40). -/
def roleHeldByOther (peers : Vector Peer 8) (announcer : Ident) (role : PeerRole) : Bool :=
  (List.finRange 8).any fun i =>
    decide (i ≠ announcer) && decide (peers[i].role = role) &&
    (decide (peers[i].presence = .self) || (decide (peers[i].presence = .present) && !peers[i].conflict))

/-- The restart of a peer: DEGRADE/PEER RESTARTED, a new baseline, and a call for the station's own ANNOUNCE (R39). -/
def State.peerRestarted (s : State) (sender : Ident) : State :=
  ((s.report .peerRestarted (some .announce) (some sender)).setPeer sender s.peers[sender].rebaseline).callAnnounce

/-- The conflict check of a valid ANNOUNCE (R40). -/
def State.judgeRole (s : State) (sender : Ident) (role : PeerRole) : State :=
  let p := s.peers[sender]
  if roleHeldByOther s.peers sender role then
    if p.conflict then s
    else
      (s.report .roleConflict (some .announce) (some sender)).setPeer sender
        { p with conflict := true, baselinePending := true }
  else s.setPeer sender { p with conflict := false }

/-- A valid ANNOUNCE from another station, given the sender's entry as it stood before the frame (R38 to R40, R31). -/
def State.takeAnnounce (s : State) (was : Peer) (sender : Ident) (role : PeerRole) (phase : Phase) (stem : StemState) :
    State :=
  let s := s.setPeer sender (s.peers[sender].announced role phase stem)
  let s := if was.presence = .absent ∨ was.presence = .lost then s.callAnnounce else s
  let s :=
    if was.presence = .present ∧ was.phase = .operating ∧ phase = .start then s.peerRestarted sender else s
  s.judgeRole sender role

/-- ANNOUNCE (R38 to R40). Its content is taken when its three coded fields lie within their codes; the SELF entry follows
the station's own state and takes nothing from its frames (R35). The revision has no effect. -/
def execAnnounce (t : Nat) (sender : Ident) (role phase stemState revision : Byte) (s : State) :
    Host.Outcome State Fault Refusal :=
  (s.observe t ⟨.announce, sender, [role, phase, stemState, revision]⟩ fun was s =>
    match PeerRole.ofCode role, Phase.ofAnnounce phase, StemState.ofCode stemState with
    | some r, some p, some m => if sender = s.identity then s else s.takeAnnounce was sender r p m
    | _, _, _ => s).done

/-- The entry of a peer whose silence timeout has passed (R37). -/
def Peer.lose (p : Peer) : Peer := { p with presence := .lost, conflict := false }

/-- A PRESENT peer has been silent for the silence timeout: LOST, its CONFLICT mark cleared, DEGRADE/PEER LOST, and the
Feed Controller told where it was the SAW peer and carried no mark (R37, R125). -/
def execPeerSilenceTimeout (t : Nat) (peer : Ident) (s : State) : Host.Outcome State Fault Refusal :=
  let p := s.peers[peer]
  match p.lastHeard with
  | some heard =>
    if p.presence = .present ∧ s.phase ≠ .silent then
      let s := (s.clockDue t (heard + ms p.timeout)).setPeer peer p.lose
      let s := s.report .peerLost none (some peer)
      (if p.role = .d226 .saw ∧ p.conflict = false then s.sawLost peer else s).done
    else (s.clock t).done
  | none => (s.clock t).done

/-- A frame that no block acts on: it is recorded for presence, time last heard and identity conflicts alone (R24, R36). -/
def execOtherFrameObserved (t : Nat) (sender : Ident) (cls : FrameClass) (payload : List Byte) (s : State) :
    Host.Outcome State Fault Refusal :=
  (s.observe t ⟨cls, sender, payload⟩ fun _ s => s).done

end Sys2Proof.Machine
end

