-- ==== Sys2Proof/Machine/Query.lean ====
section
/-! DEFINITION. The seven query items (10.6) and the contents of their answers (2.6, R169). -/

namespace Sys2Proof.Machine

/-- The content of the STATION item (R169). In the roles where the Feed Controller or the Saw Sequencer does not act, their
state keeps its reset values and reads MANUAL, FREE and IDLE. -/
def State.stationContent (s : State) : List Byte :=
  [byteOf s.phase.code, byteOf s.role.code, byteOf s.identity.val, byteOf s.stem.state.code,
    byteOf s.safety.output.code, byteOf s.feed.mode.code, byteOf s.feed.hold.code, byteOf s.saw.state.code,
    flagByte s.fusion.zeroed] ++ le32 (BitVec.ofInt 32 s.fusion.p)

/-- The content of the TRACK item (R169). -/
def State.trackContent (s : State) : List Byte :=
  [byteOf s.fusion.verdict.code, byteOf s.fusion.nonWheelRun, byteOf s.fusion.emptyRun, byteOf s.fusion.logIntervals,
    byteOf s.fusion.logNonWheel, flagByte s.fusion.gateUsed]

/-- The content of the FAULT item (R169). -/
def State.faultContent (s : State) : List Byte :=
  flagByte (decide (s.safety.record.severity ≠ .none)) :: faultBytes s.safety.record s.safety.previous

/-- A sequence number as the PEER item returns it: one that is not known answers as 0 (R34). -/
def seqByte : Option Byte → Byte
  | some n => n
  | none => 0

/-- The content of the PEER item (R34, R169). -/
def peerContent (p : Peer) : List Byte :=
  [byteOf p.presence.code, byteOf p.role.code, byteOf p.phase.code, byteOf p.stem.code, seqByte p.motionSeq,
    seqByte p.rollerSeq, seqByte p.gateSeq, flagByte p.baselinePending, byteOf p.gapCount, flagByte p.conflict]

/-- The content of the ORDER item; an empty slot answers with every field 0 (R169). -/
def orderContent : Option Order → List Byte
  | some o =>
    [byteOf o.status.code] ++ le16 (BitVec.ofNat 16 o.target) ++ [byteOf o.tolMinus, byteOf o.tolPlus] ++
    le16 (BitVec.ofNat 16 o.minTop) ++ [byteOf o.grade]
  | none => List.replicate 8 0

/-- The fields of a calibration entry in an answer (2.6). -/
def calBytes (e : CalEntry) : List Byte := [byteOf e.key] ++ le16 (BitVec.ofInt 16 e.value) ++ [flagByte e.enabled]

/-- The content of the LINK item (R169). -/
def State.linkContent (s : State) : List Byte := [byteOf s.link.checkFailures, byteOf s.link.txFailures]

/-- An ANSWER placed in the answer slot if that is empty and the query has an answer (R168). -/
def State.placeAnswer (s : State) (item : QueryItem) (index : Byte) (content : Option (List Byte)) : State :=
  match s.link.answerSlot, content with
  | none, some c => { s with link.answerSlot := some ⟨.answer item index c, 0⟩ }
  | _, _ => s

/-- A QUERY of an item: taken in START and OPERATING where the station is addressed (R27, R168). -/
def State.query (s : State) (t : Nat) (sender : Ident) (addressee : Byte) (item : QueryItem) (index : Byte)
    (content : State → Option (List Byte)) : State :=
  s.observeFor t ⟨.query, sender, [addressee, byteOf item.code, index]⟩ (some fun s =>
    if s.addressed addressee then s.placeAnswer item index (content s) else s)

/-- The PEER content of an index, `none` above 7 (R168). -/
def State.peerAnswer (s : State) (index : Byte) : Option (List Byte) :=
  if h : index.toNat < 8 then some (peerContent s.peers[index.toNat]) else none

/-- The ORDER content of an index, `none` above 11 (R168). -/
def State.orderAnswer (s : State) (index : Byte) : Option (List Byte) :=
  if h : index.toNat < 12 then some (orderContent s.stem.orders[index.toNat]) else none

/-- The CAL content of an index, `none` above 7 (R168). -/
def State.calAnswer (s : State) (index : Byte) : Option (List Byte) :=
  if h : index.toNat < 8 then some (calBytes s.fusion.staged[index.toNat] ++ calBytes s.fusion.working[index.toNat])
  else none

/-- QUERY STATION (R168, R169). -/
def execQueryStation (t : Nat) (sender : Ident) (addressee index : Byte) (s : State) :
    Host.Outcome State Fault Refusal :=
  (s.query t sender addressee .station index fun s => some s.stationContent).done

/-- QUERY TRACK (R168, R169). -/
def execQueryTrack (t : Nat) (sender : Ident) (addressee index : Byte) (s : State) :
    Host.Outcome State Fault Refusal :=
  (s.query t sender addressee .track index fun s => some s.trackContent).done

/-- QUERY FAULT (R168, R169). -/
def execQueryFault (t : Nat) (sender : Ident) (addressee index : Byte) (s : State) :
    Host.Outcome State Fault Refusal :=
  (s.query t sender addressee .fault index fun s => some s.faultContent).done

/-- QUERY PEER n (R168, R169). -/
def execQueryPeer (t : Nat) (sender : Ident) (addressee index : Byte) (s : State) :
    Host.Outcome State Fault Refusal :=
  (s.query t sender addressee .peer index fun s => s.peerAnswer index).done

/-- QUERY ORDER n (R168, R169). -/
def execQueryOrder (t : Nat) (sender : Ident) (addressee index : Byte) (s : State) :
    Host.Outcome State Fault Refusal :=
  (s.query t sender addressee .order index fun s => s.orderAnswer index).done

/-- QUERY CAL n (R168, R169). -/
def execQueryCal (t : Nat) (sender : Ident) (addressee index : Byte) (s : State) : Host.Outcome State Fault Refusal :=
  (s.query t sender addressee .cal index fun s => s.calAnswer index).done

/-- QUERY LINK (R168, R169). -/
def execQueryLink (t : Nat) (sender : Ident) (addressee index : Byte) (s : State) :
    Host.Outcome State Fault Refusal :=
  (s.query t sender addressee .link index fun s => some s.linkContent).done

end Sys2Proof.Machine
end

