-- ==== Sys2Proof/Machine/Setup.lean ====
section
/-! DEFINITION. Start-up and reset (Chapter 11): RESET, SETUP and SETUP END. -/

namespace Sys2Proof.Machine

/-- RESET: everything takes its value at the end of reset, with the pins as they then stand; the commands that wait are
still to come (R170). -/
def execReset (pins : Pins) (s : State) : Host.Outcome State Fault Refusal := (State.boot pins s.pending).done

/-- A SETUP in START (R173). -/
def State.storeSetting (s : State) (sender : Ident) (item : Byte) (value : Word) : State :=
  match s.settings.put item.toNat value.toNat with
  | some σ => { s with settings := σ }
  | none => s.report .settingRefused (some .setup) (some sender)

/-- SETUP: taken in START, refused in OPERATING, where the station is addressed (R173, R175). -/
def execSetup (t : Nat) (sender : Ident) (addressee item : Byte) (value : Word) (s : State) :
    Host.Outcome State Fault Refusal :=
  (s.observeFor t ⟨.setup, sender, [addressee, item] ++ le32 value⟩ (some fun s =>
    if s.addressed addressee then
      if s.phase = .start then s.storeSetting sender item value
      else s.report .settingRefused (some .setup) (some sender)
    else s)).done

/-- The entry into OPERATING (R174). -/
def State.enterOperating (s : State) : State :=
  let s := { s with phase := .operating }.callAnnounce
  let s :=
    { s with
      capture.sampleTimer := some (s.inMs s.settings.samplePeriod)
      fusion.closing := some (s.inMs (3 * s.settings.samplePeriod))
      saw.firstDelivery := decide (s.role = Role.saw) }
  if s.safety.stopAsserted then s.captureStop .stopLine none none true else s

/-- SETUP END: taken in START, refused in OPERATING (R174, R175). -/
def execSetupEnd (t : Nat) (sender : Ident) (s : State) : Host.Outcome State Fault Refusal :=
  (s.observeFor t ⟨.setupEnd, sender, []⟩ (some fun s =>
    if s.phase = .start then s.enterOperating else s.report .settingRefused (some .setupEnd) (some sender))).done

end Sys2Proof.Machine
end

