-- ==== Sys2Proof/Machine/Stop.lean ====
section
/-! DEFINITION. The Safety and Fault Unit's commands but for the queries (Chapter 10): the stop line, STOP NOTICE, the
two-frame release with its arming timer, and CLEAR FAULT. -/

namespace Sys2Proof.Machine

/-! ### The stop line (R158) -/

/-- The stop line becomes ASSERTED: in OPERATING this captures STOP/STOP LINE; in START and SILENT it updates the level
alone. A line already ASSERTED does not change (R158). -/
def execStopLineAssertion (t : Nat) (s : State) : Host.Outcome State Fault Refusal :=
  let s := s.clock t
  (if s.safety.stopAsserted then s
   else
    let s := { s with safety.stopAsserted := true }
    if s.phase = .operating then s.captureStop .stopLine none none true else s).done

/-- The stop line becomes INACTIVE: the level alone is updated (R158). -/
def execStopLineInactive (t : Nat) (s : State) : Host.Outcome State Fault Refusal :=
  { s.clock t with safety.stopAsserted := false }.done

/-- STOP NOTICE: STOP/REMOTE STOP in START and OPERATING; the station's own is ignored (R161). -/
def execStopNotice (t : Nat) (sender : Ident) (kind : Byte) (serial : Half) (s : State) :
    Host.Outcome State Fault Refusal :=
  (s.observeFor t ⟨.stopNotice, sender, [kind] ++ le16 serial⟩
    (if stopKindOk kind then
      some fun s =>
        if sender = s.identity then s else s.captureStop .remoteStop (some .stopNotice) (some sender) false
     else none)).done

/-! ### Release (10.4) -/

/-- A RELEASE PREPARE taken in OPERATING (R162). -/
def State.prepareRelease (s : State) (sender : Ident) : State :=
  if s.safety.output = .run then s
  else if s.safety.stopAsserted then s.report .commandRefused (some .releasePrepare) (some sender)
  else { s with safety.arming := some (s.now + Config.armingUs) }

/-- RELEASE PREPARE (R162). -/
def execReleasePrepare (t : Nat) (sender : Ident) (s : State) : Host.Outcome State Fault Refusal :=
  (s.observeFor t ⟨.releasePrepare, sender, []⟩ (some fun s => s.inOperating fun s => s.prepareRelease sender)).done

/-- The arming timer expires and clears the arming (R162). -/
def execReleaseArmingExpiry (t : Nat) (s : State) : Host.Outcome State Fault Refusal :=
  match s.safety.arming with
  | some due => { s.clockDue t due with safety.arming := none }.done
  | none => (s.clock t).done

/-- The stem state the release leaves CUTTING for (R102). -/
def releasedStem (s : State) : StemState :=
  match s.stem.returnState with
  | some .topped => .topped
  | some .gripped => if s.fusion.zeroed then .running else .gripped
  | _ => .running

/-- The Stem and Order Unit at the release (R102). -/
def State.releaseStem (s : State) : State :=
  match s.stem.state with
  | .atMark => (s.enterStem .running).activate
  | .cutting => s.leaveCutting (releasedStem s)
  | _ => s

/-- The Saw Sequencer at the release: the bar is homed if BAR HOME, as last delivered, is false (R143). -/
def State.releaseSaw (s : State) : State := if s.role = .saw ∧ s.saw.lastHome = false then s.startHoming else s

/-- A RELEASE CONFIRM taken in OPERATING: an armed station returns to RUN; one whose arming time has run out, or that is
not armed, ignores it (R163). -/
def State.confirmRelease (s : State) : State :=
  match s.safety.arming with
  | some due =>
    let s := { s with safety.arming := none }
    if s.now ≤ due then { s with safety.output := .run }.releaseStem.releaseSaw else s
  | none => s

/-- RELEASE CONFIRM (R163). -/
def execReleaseConfirm (t : Nat) (sender : Ident) (s : State) : Host.Outcome State Fault Refusal :=
  (s.observeFor t ⟨.releaseConfirm, sender, []⟩ (some fun s => s.inOperating State.confirmRelease)).done

/-! ### The fault record -/

/-- The record emptied, its severity kept as the previous severity; an empty record is left as it is (R166). -/
def SafetyUnit.clear (u : SafetyUnit) : SafetyUnit :=
  if u.record.severity = .none then u else { u with previous := u.record.severity, record := FaultRecord.empty }

/-- CLEAR FAULT (R166). -/
def execClearFault (t : Nat) (sender : Ident) (addressee : Byte) (s : State) : Host.Outcome State Fault Refusal :=
  (s.observeFor t ⟨.clearFault, sender, [addressee]⟩ (some fun s =>
    if s.addressed addressee then { s with safety := s.safety.clear } else s)).done

end Sys2Proof.Machine
end

