-- ==== Sys2Proof/Machine/Valves.lean ====
section
/-! DEFINITION. The Valve Drivers' own commands (Chapter 9): PWM_PERIOD_BOUNDARY with the overload rules and the dead
interval, KNIFE_OPEN_TIMER_EXPIRY and WHEEL_LIFT_TIMER_EXPIRY. -/

namespace Sys2Proof.Machine

/-- The side a duty drives (R148). -/
def sideOf (duty : Int) : Option Side := if duty = 0 then none else if 0 < duty then some .a else some .b

/-- A boundary's loading in a channel that is neither latched nor forced off: the buffer becomes the active duty, a side no
longer wanted is switched off, and the wanted side is driven where the dead interval permits it (R148, R149). -/
def Channel.load (c : Channel) (σ : Settings) (now : Nat) : Channel :=
  let want := sideOf c.buffer
  let c := { c with active := c.buffer }
  if c.side = want then c
  else
    let c := c.switchOff now
    match want with
    | some side => if deadIntervalOver σ now c.lastStopped side then { c with side := some side } else c
    | none => c

/-- The overload count after the comparison of a reading (R150). -/
def Channel.compared (c : Channel) (σ : Settings) (current : Nat) : Nat :=
  if c.side ≠ none ∧ σ.overloadLimit < current then c.overload + 1 else 0

/-- A channel becomes OVERLOADED at a boundary: its side is switched off at once, the count is 0, and the buffer is still
loaded into the active duty (R151). -/
def Channel.latch (c : Channel) (now : Nat) : Channel :=
  { c.switchOff now with overload := 0, latched := true, active := c.buffer }

/-- A channel at a period boundary, with the current of the period just ended; the flag says that it has just become
OVERLOADED (R147 to R152). -/
def Channel.boundary (c : Channel) (σ : Settings) (now : Nat) (forced : Bool) (current : Nat) : Channel × Bool :=
  if forced then ({ c with buffer := 0, active := 0, overload := 0, side := none, latched := false }, false)
  else if c.latched then
    if c.buffer = 0 then ({ c with latched := false, active := 0 }, false) else ({ c with active := c.buffer }, false)
  else
    let n := c.compared σ current
    if σ.overloadCount ≤ n then (c.latch now, true) else ({ c with overload := n }.load σ now, false)

/-- A period boundary of one channel, with the capture of a new overload (R150, R151). -/
def State.channelBoundary (s : State) (i : Fin 4) (raw : Raw) : State :=
  let r := s.valves.channels[i].boundary s.settings s.now s.forcedOff (currentOf raw)
  let s := { s with valves.channels := s.valves.channels.set i r.1 }
  if r.2 then s.report .valveOverload none none else s

/-- The PWM period timer expires: the next period starts, and every channel takes its reading, applies the overload rules
and loads its buffer (R147). The timer runs in every phase. -/
def execPwmPeriodBoundary (t : Nat) (cs0 cs1 cs2 cs3 : Raw) (s : State) : Host.Outcome State Fault Refusal :=
  let s := s.clockDue t s.valves.pwmTimer
  let s :=
    { s with
      valves.periodStart := s.now
      valves.periodMs := s.settings.pwmPeriod
      valves.pwmTimer := s.inMs s.settings.pwmPeriod }
  ((((s.channelBoundary 0 cs0).channelBoundary 1 cs1).channelBoundary 2 cs2).channelBoundary 3 cs3).done

/-- The knife open timer expires: the presented knife duty becomes 0 (R154). -/
def execKnifeOpenTimerExpiry (t : Nat) (s : State) : Host.Outcome State Fault Refusal :=
  match s.valves.knifeOpen with
  | some due => { s.clockDue t due with valves.knifeOpen := none }.done
  | none => (s.clock t).done

/-- The lift timer expires: the presented wheel arm duty becomes 0 (R156). -/
def execWheelLiftTimerExpiry (t : Nat) (s : State) : Host.Outcome State Fault Refusal :=
  match s.valves.wheelLift with
  | some due => { s.clockDue t due with valves.wheelLift := none }.done
  | none => (s.clock t).done

end Sys2Proof.Machine
end

