-- ==== Sys2Proof/Machine/Dispatch.lean ====
section
/-! DEFINITION. The meaning of every command: one arm per constructor of `Instr`, in the order of the table. -/

namespace Sys2Proof.Machine

/-- The effect of a command on everything but the queue of waiting commands. -/
def exec (i : Instr) (s : State) : Host.Outcome State Fault Refusal :=
  match i with
  | .reset pins => Sys2Proof.Machine.execReset pins s
  | .quadratureTransition t channel line1 line2 => Sys2Proof.Machine.execQuadratureTransition t channel line1 line2 s
  | .chainRisingEdge t => Sys2Proof.Machine.execChainRisingEdge t s
  | .chainPeriodExpiry t => Sys2Proof.Machine.execChainPeriodExpiry t s
  | .gateBlockEdge t => Sys2Proof.Machine.execGateBlockEdge t s
  | .gateClearEdge t => Sys2Proof.Machine.execGateClearEdge t s
  | .stopLineAssertion t => Sys2Proof.Machine.execStopLineAssertion t s
  | .stopLineInactive t => Sys2Proof.Machine.execStopLineInactive t s
  | .sampleInstant t an0 an1 an2 an3 => Sys2Proof.Machine.execSampleInstant t an0 an1 an2 an3 s
  | .pwmPeriodBoundary t cs0 cs1 cs2 cs3 => Sys2Proof.Machine.execPwmPeriodBoundary t cs0 cs1 cs2 cs3 s
  | .lineIdle t => Sys2Proof.Machine.execLineIdle t s
  | .arbitrationLost t => Sys2Proof.Machine.execArbitrationLost t s
  | .frameDisturbed t => Sys2Proof.Machine.execFrameDisturbed t s
  | .transmitComplete t => Sys2Proof.Machine.execTransmitComplete t s
  | .linkCheckFail t why => Sys2Proof.Machine.execLinkCheckFail t why s
  | .keepAliveExpiry t => Sys2Proof.Machine.execKeepAliveExpiry t s
  | .peerSilenceTimeout t peer => Sys2Proof.Machine.execPeerSilenceTimeout t peer s
  | .announce t sender role phase stemState revision => Sys2Proof.Machine.execAnnounce t sender role phase stemState revision s
  | .motion t sender seq total contact => Sys2Proof.Machine.execMotion t sender seq total contact s
  | .roller t sender seq left right => Sys2Proof.Machine.execRoller t sender seq left right s
  | .gate t sender seq total => Sys2Proof.Machine.execGate t sender seq total s
  | .diameter t sender mm => Sys2Proof.Machine.execDiameter t sender mm s
  | .diameterAged t source => Sys2Proof.Machine.execDiameterAged t source s
  | .closingTimerExpiry t => Sys2Proof.Machine.execClosingTimerExpiry t s
  | .stopNotice t sender kind serial => Sys2Proof.Machine.execStopNotice t sender kind serial s
  | .releasePrepare t sender => Sys2Proof.Machine.execReleasePrepare t sender s
  | .releaseArmingExpiry t => Sys2Proof.Machine.execReleaseArmingExpiry t s
  | .releaseConfirm t sender => Sys2Proof.Machine.execReleaseConfirm t sender s
  | .holdRequest t sender serial kind index => Sys2Proof.Machine.execHoldRequest t sender serial kind index s
  | .holdGrant t sender serial kind index => Sys2Proof.Machine.execHoldGrant t sender serial kind index s
  | .holdRelease t sender serial kind index outcome => Sys2Proof.Machine.execHoldRelease t sender serial kind index outcome s
  | .cutStart t sender serial kind index attempt => Sys2Proof.Machine.execCutStart t sender serial kind index attempt s
  | .cutDone t sender serial kind index pAtCut => Sys2Proof.Machine.execCutDone t sender serial kind index pAtCut s
  | .halted t sender serial index p offsize => Sys2Proof.Machine.execHalted t sender serial index p offsize s
  | .orderReject t sender serial index reason => Sys2Proof.Machine.execOrderReject t sender serial index reason s
  | .feedDemand t sender duty => Sys2Proof.Machine.execFeedDemand t sender duty s
  | .manualExpiry t => Sys2Proof.Machine.execManualExpiry t s
  | .feedMode t sender mode => Sys2Proof.Machine.execFeedMode t sender mode s
  | .cutCommand t sender serial kind => Sys2Proof.Machine.execCutCommand t sender serial kind s
  | .stemOpen t sender serial => Sys2Proof.Machine.execStemOpen t sender serial s
  | .stemClose t sender serial => Sys2Proof.Machine.execStemClose t sender serial s
  | .order t sender serial index target tolMinus tolPlus minTop grade => Sys2Proof.Machine.execOrder t sender serial index target tolMinus tolPlus minTop grade s
  | .calValue t sender entry value => Sys2Proof.Machine.execCalValue t sender entry value s
  | .calKey t sender entry value => Sys2Proof.Machine.execCalKey t sender entry value s
  | .clearFault t sender addressee => Sys2Proof.Machine.execClearFault t sender addressee s
  | .queryStation t sender addressee index => Sys2Proof.Machine.execQueryStation t sender addressee index s
  | .queryTrack t sender addressee index => Sys2Proof.Machine.execQueryTrack t sender addressee index s
  | .queryFault t sender addressee index => Sys2Proof.Machine.execQueryFault t sender addressee index s
  | .queryPeer t sender addressee index => Sys2Proof.Machine.execQueryPeer t sender addressee index s
  | .queryOrder t sender addressee index => Sys2Proof.Machine.execQueryOrder t sender addressee index s
  | .queryCal t sender addressee index => Sys2Proof.Machine.execQueryCal t sender addressee index s
  | .queryLink t sender addressee index => Sys2Proof.Machine.execQueryLink t sender addressee index s
  | .setup t sender addressee item value => Sys2Proof.Machine.execSetup t sender addressee item value s
  | .setupEnd t sender => Sys2Proof.Machine.execSetupEnd t sender s
  | .otherFrameObserved t sender cls payload => Sys2Proof.Machine.execOtherFrameObserved t sender cls payload s
  | .grantTimerExpiry t => Sys2Proof.Machine.execGrantTimerExpiry t s
  | .chainTimerExpiry t => Sys2Proof.Machine.execChainTimerExpiry t s
  | .cutTimerExpiry t => Sys2Proof.Machine.execCutTimerExpiry t s
  | .returnTimerExpiry t => Sys2Proof.Machine.execReturnTimerExpiry t s
  | .knifeOpenTimerExpiry t => Sys2Proof.Machine.execKnifeOpenTimerExpiry t s
  | .wheelLiftTimerExpiry t => Sys2Proof.Machine.execWheelLiftTimerExpiry t s

end Sys2Proof.Machine
end

