-- ==== Sys2Proof/Safety.lean ====
section
/-! DEFINITION. What claims about the station are stated with: when a frame is heard, the invariants of the station, and
the parts of the state a command leaves alone. -/

namespace Sys2Proof.Machine

/-! ### Hearing a frame -/

/-- The moment a command happens; RESET restarts the time base. -/
def Instr.time : Instr → Nat
  | .reset _ => 0
  | .quadratureTransition t _ _ _ => t
  | .chainRisingEdge t => t
  | .chainPeriodExpiry t => t
  | .gateBlockEdge t => t
  | .gateClearEdge t => t
  | .stopLineAssertion t => t
  | .stopLineInactive t => t
  | .sampleInstant t _ _ _ _ => t
  | .pwmPeriodBoundary t _ _ _ _ => t
  | .lineIdle t => t
  | .arbitrationLost t => t
  | .frameDisturbed t => t
  | .transmitComplete t => t
  | .linkCheckFail t _ => t
  | .keepAliveExpiry t => t
  | .peerSilenceTimeout t _ => t
  | .announce t _ _ _ _ _ => t
  | .motion t _ _ _ _ => t
  | .roller t _ _ _ _ => t
  | .gate t _ _ _ => t
  | .diameter t _ _ => t
  | .diameterAged t _ => t
  | .closingTimerExpiry t => t
  | .stopNotice t _ _ _ => t
  | .releasePrepare t _ => t
  | .releaseArmingExpiry t => t
  | .releaseConfirm t _ => t
  | .holdRequest t _ _ _ _ => t
  | .holdGrant t _ _ _ _ => t
  | .holdRelease t _ _ _ _ _ => t
  | .cutStart t _ _ _ _ _ => t
  | .cutDone t _ _ _ _ _ => t
  | .halted t _ _ _ _ _ => t
  | .orderReject t _ _ _ _ => t
  | .feedDemand t _ _ => t
  | .manualExpiry t => t
  | .feedMode t _ _ => t
  | .cutCommand t _ _ _ => t
  | .stemOpen t _ _ => t
  | .stemClose t _ _ => t
  | .order t _ _ _ _ _ _ _ _ => t
  | .calValue t _ _ _ => t
  | .calKey t _ _ _ => t
  | .clearFault t _ _ => t
  | .queryStation t _ _ _ => t
  | .queryTrack t _ _ _ => t
  | .queryFault t _ _ _ => t
  | .queryPeer t _ _ _ => t
  | .queryOrder t _ _ _ => t
  | .queryCal t _ _ _ => t
  | .queryLink t _ _ _ => t
  | .setup t _ _ _ _ => t
  | .setupEnd t _ => t
  | .otherFrameObserved t _ _ _ => t
  | .grantTimerExpiry t => t
  | .chainTimerExpiry t => t
  | .cutTimerExpiry t => t
  | .returnTimerExpiry t => t
  | .knifeOpenTimerExpiry t => t
  | .wheelLiftTimerExpiry t => t

/-- The station hears the frame a command stands for, and the owning block acts on it: the station is not SILENT, the frame
is no identity conflict, and its sender passes the role filter (R24, R25, R36). -/
def State.hears (s : State) (c : Instr) : Prop :=
  match observedFrame c with
  | some f =>
    s.phase ≠ .silent ∧ (f.sender = s.identity → s.isOwn f = true) ∧ s.roleFilter f.cls f.sender = true
  | none => False

/-- The station hears a frame in OPERATING (R172). -/
def State.hearsWorking (s : State) (c : Instr) : Prop := s.phase = .operating ∧ s.hears c

/-- The station hears a stem-scoped frame of the stem it has open, in OPERATING (R26). -/
def State.hearsInStem (s : State) (c : Instr) (serial : Half) : Prop :=
  s.hearsWorking c ∧ s.stem.state ≠ .noStem ∧ serial = s.stem.serial

/-- The state once the Peer Table has recorded the frame a command stands for (R36). -/
def State.heard (s : State) (c : Instr) : State :=
  match observedFrame c with
  | some f => s.record (Instr.time c) f
  | none => s.clock (Instr.time c)

/-! ### What a frame carries -/

/-- The stem serial of a stem-scoped frame (R26). LOG RECORD, the last of these classes, has no row of its own. -/
def Instr.stemSerial : Instr → Option Half
  | .holdRequest _ _ n _ _ => some n
  | .holdGrant _ _ n _ _ => some n
  | .holdRelease _ _ n _ _ _ => some n
  | .cutStart _ _ n _ _ _ => some n
  | .cutDone _ _ n _ _ _ => some n
  | .halted _ _ n _ _ _ => some n
  | .orderReject _ _ n _ _ => some n
  | .cutCommand _ _ n _ => some n
  | .stemClose _ _ n => some n
  | .order _ _ n _ _ _ _ _ _ => some n
  | _ => none

/-- The addressee of a frame of an addressed class (R27). -/
def Instr.addressee : Instr → Option Byte
  | .clearFault _ _ a => some a
  | .queryStation _ _ a _ => some a
  | .queryTrack _ _ a _ => some a
  | .queryFault _ _ a _ => some a
  | .queryPeer _ _ a _ => some a
  | .queryOrder _ _ a _ => some a
  | .queryCal _ _ a _ => some a
  | .queryLink _ _ a _ => some a
  | .setup _ _ a _ _ => some a
  | _ => none

/-- Whether a cut kind and an order index lie within their codes (2.6). -/
def cutCodesOk (kind index : Byte) : Bool :=
  decide (kind.toNat ≤ 2) && (decide (index.toNat ≤ 11) || decide (index.toNat = 255))

/-- Whether every coded field of a frame lies within the codes 2.6 gives it (R24 step 5, R38, R43). -/
def Instr.codesOk : Instr → Bool
  | .announce _ _ role phase stem _ =>
    decide (role.toNat ≤ 4) && decide (phase.toNat ≤ 1) && decide (stem.toNat ≤ 5)
  | .motion _ _ _ _ contact => decide (contact.toNat ≤ 1)
  | .stopNotice _ _ kind _ => decide (19 ≤ kind.toNat) && decide (kind.toNat ≤ 23)
  | .holdRequest _ _ _ kind index => cutCodesOk kind index
  | .holdGrant _ _ _ kind index => cutCodesOk kind index
  | .holdRelease _ _ _ kind index outcome => cutCodesOk kind index && decide (outcome.toNat ≤ 2)
  | .cutStart _ _ _ kind index _ => cutCodesOk kind index
  | .cutDone _ _ _ kind index _ => cutCodesOk kind index
  | .halted _ _ _ index _ offsize => cutCodesOk 0 index && decide (offsize.toNat ≤ 1)
  | .orderReject _ _ _ index reason => cutCodesOk 0 index && decide (reason.toNat ≤ 1)
  | .feedMode _ _ mode => decide (mode.toNat ≤ 1)
  | .cutCommand _ _ _ kind => decide (kind.toNat ≤ 2)
  | _ => true

/-- Whether a station in START ignores the frame, or discards its delivery, once the Peer Table has recorded it (R77,
R172). -/
def Instr.ignoredInStart : Instr → Bool
  | .releasePrepare _ _ => true
  | .releaseConfirm _ _ => true
  | .feedDemand _ _ _ => true
  | .feedMode _ _ _ => true
  | .cutCommand _ _ _ _ => true
  | .stemOpen _ _ _ => true
  | .diameter _ _ _ => true
  | c => (Instr.stemSerial c).isSome

/-! ### Names for parts of the state -/

/-- The capture channel of a number. -/
def State.chan (s : State) : Fin 3 → CapChannel
  | 0 => s.capture.cap0
  | 1 => s.capture.cap1
  | 2 => s.capture.cap2

/-- Whether a transmit source is a slot that replaces: the STOP slot, the publication slots and the FAULT NOTICE slot
(R28). -/
def TxSource.replaces : TxSource → Bool
  | .stop | .motion | .roller | .gate | .diameter | .fault => true
  | .handshake | .log | .answer | .announce => false

/-! ### Invariants -/

/-- What follows the state stands as it follows: the commanded and presented duties, the forced-off channels, the SELF entry
and the fault line (R35, R110, R126, R128, R146, R152, R167). -/
def State.Settled (s : State) : Prop := s.refresh = s

/-- P lies in its range (R50, R53). -/
def State.TrackInRange (s : State) : Prop := Config.pMin ≤ s.fusion.p ∧ s.fusion.p ≤ Config.pMax

/-- The two FIFOs hold no more than four frames (R28) and the ring no more than four entries (R64). -/
def State.QueuesBounded (s : State) : Prop :=
  s.link.handshake.length ≤ 4 ∧ s.link.logFifo.length ≤ 4 ∧ s.fusion.ring.length ≤ 4

/-- The counts stay within 0 to 255 (R20, R22, R34, R50, R89, R165). -/
def State.CountsBounded (s : State) : Prop :=
  s.link.checkFailures ≤ 255 ∧ s.link.txFailures ≤ 255 ∧ (∀ i : Fin 8, s.peers[i].gapCount ≤ 255) ∧
  s.fusion.frames ≤ 255 ∧ s.fusion.nonWheelRun ≤ 255 ∧ s.fusion.emptyRun ≤ 255 ∧ s.fusion.logIntervals ≤ 255 ∧
  s.fusion.logNonWheel ≤ 255 ∧ s.stem.logNumber ≤ 255 ∧ s.safety.record.laterCount ≤ 255

/-- Every setting lies in its range (R173, R176). -/
def State.SettingsInRange (s : State) : Prop :=
  ∀ item v lo hi, s.settings.get item = some v → Settings.range item = some (lo, hi) → lo ≤ v ∧ v ≤ hi

/-- At most one order is ACTIVE (R103). -/
def State.OneActive (s : State) : Prop :=
  ∀ i j : Fin 12, slotIs .active s.stem.orders[i] = true → slotIs .active s.stem.orders[j] = true → i = j

/-- With no stem open there is no position, no order, no hold and no request (R52, R76, R92, R124, R144). -/
def State.NoStemIsEmpty (s : State) : Prop :=
  s.stem.state = .noStem →
    s.fusion.p = 0 ∧ s.fusion.zeroed = false ∧ (∀ i : Fin 12, s.stem.orders[i] = none) ∧ s.stem.view = none ∧
    s.stem.closePending = false ∧ s.stem.returnState = none ∧ s.profile.thinTravel = 0 ∧
    (∀ k : Fin 400, s.profile.buckets[k] = none) ∧ s.feed.hold = .free ∧ s.saw.state ≠ .requested

/-- A SILENT station has nothing to send and no running timer but the PWM period timer (R30, R177). -/
def State.SilentIsStill (s : State) : Prop :=
  s.phase = .silent →
    s.link.stopSlot = none ∧ s.link.handshake = [] ∧ s.link.motionSlot = none ∧ s.link.rollerSlot = none ∧
    s.link.gateSlot = none ∧ s.link.diameterSlot = none ∧ s.link.faultSlot = none ∧ s.link.logFifo = [] ∧
    s.link.answerSlot = none ∧ s.link.announceSlot = none ∧ s.link.repeatMark = false ∧ s.link.keepAlive = none ∧
    s.link.onLine = none ∧ s.capture.sampleTimer = none ∧ s.fusion.closing = none ∧ s.feed.expiry = none ∧
    s.saw.grantTimer = none ∧ s.saw.chainTimer = none ∧ s.saw.cutTimer = none ∧ s.saw.returnTimer = none ∧
    s.valves.knifeOpen = none ∧ s.valves.wheelLift = none ∧ s.safety.arming = none

/-- In STOPPED the feed station is in MANUAL, FREE and at demand 0 (R124), and the saw station is IDLE without a record
(R142); an armed release belongs to STOPPED (R162). -/
def State.StoppedIsIdle (s : State) : Prop :=
  (s.safety.output = .stopped →
    (s.role = .feed → s.feed.mode = .manual ∧ s.feed.hold = .free ∧ s.feed.demand = 0 ∧ s.feed.expiry = none) ∧
    (s.role = .saw → s.saw.state = .idle ∧ s.saw.record = none)) ∧
  (s.safety.output = .run → s.safety.arming = none)

/-- The handshake states that are part of a handshake hold its record, IDLE holds none, and a timer runs only in its own
state (R127, R128, R129). -/
def State.SawConsistent (s : State) : Prop :=
  ((s.saw.state = .requested ∨ s.saw.state = .spin ∨ s.saw.state = .down) → s.saw.record ≠ none) ∧
  (s.saw.state = .idle → s.saw.record = none) ∧
  (s.saw.grantTimer ≠ none → s.saw.state = .requested) ∧ (s.saw.chainTimer ≠ none → s.saw.state = .spin) ∧
  (s.saw.cutTimer ≠ none → s.saw.state = .down) ∧ (s.saw.returnTimer ≠ none → s.saw.state = .ret)

/-- AUTO stands only where it can be entered and was not left: in a FEED station in RUN, on a zeroed track, with a stem open
and its top not reached (R111, R112, R124). -/
def State.AutoIsReady (s : State) : Prop :=
  s.feed.mode = .auto →
    s.role = .feed ∧ s.safety.output = .run ∧ s.fusion.zeroed = true ∧ s.stem.state ≠ .noStem ∧ s.stem.state ≠ .topped

/-- The SELF entry is the station's own, with its strapped role and no CONFLICT mark, and no other entry is SELF (R34,
R35). -/
def State.SelfIsOwn (s : State) : Prop :=
  s.peers[s.identity].presence = .self ∧ s.peers[s.identity].role = .d226 s.role ∧
  s.peers[s.identity].conflict = false ∧ ∀ i : Fin 8, s.peers[i].presence = .self → i = s.identity

/-- No channel drives a side whose sign its active duty does not have, and a latched channel drives none (R148, R151). -/
def State.ChannelsSound (s : State) : Prop :=
  ∀ i : Fin 4,
    (s.valves.channels[i].side = some .a → 0 < s.valves.channels[i].active) ∧
    (s.valves.channels[i].side = some .b → s.valves.channels[i].active < 0) ∧
    (s.valves.channels[i].latched = true → s.valves.channels[i].side = none)

end Sys2Proof.Machine
end

