-- ==== Sys2Proof/Certificates/Slice0/Obligations.lean ====
section
/-! DEFINITION. The statements about the station. A statement about a command says which state it answers, in full where it
can: the fields the rules change are written out, and every other field is that of the state before, brought up to date by
`State.refresh`, whose own effect `EveryCommandLeavesTheStationSettled` and `DutiesAndChannelsFollowTheState` state. The
operations that several rules share (a capture, a placement, the recording of a frame, the entry into STOPPED, a change of
stem state) have statements of their own, and the other statements are written with them. -/

open Sys2Proof Sys2Proof.Machine

/-! ### The machine -/

/-- A step takes the command at the front of the queue and has its effect with the rest of the queue still waiting; with
nothing waiting the station idles (the model's choice, notes/assumptions/12.md). -/
def Obligations.StepRunsFrontCommand : Prop :=
  (∀ (c : Instr) (rest : List Instr) (s : State), s.pending = c :: rest → step s = exec c { s with pending := rest }) ∧
  ∀ s : State, s.pending = [] → step s = .next s

/-- Every command in every state answers a next state, leaves the queue as it is (the model's choice,
notes/assumptions/4.md) and, but for RESET, never turns the time base back (the model's choice, notes/assumptions/1.md). -/
def Obligations.EveryCommandCompletes : Prop :=
  ∀ (c : Instr) (s : State), ∃ u, exec c s = .next u ∧ u.pending = s.pending ∧
    ((∀ pins, c ≠ .reset pins) → s.now ≤ u.now)

/-- RESET latches role and identity, enters START with default settings, takes the levels on the pins as references, starts
the keep-alive and PWM period timers and places the first ANNOUNCE (R170, with the reset tables of the chapters). The time
base counting from the end of reset is the model's reading (notes/assumptions/5.md); that a PERIOD or OFF channel takes a
reference pair too, and that the queue of commands stays, are its choices (notes/assumptions/21.md and 4.md). -/
def Obligations.ResetStartsTheStation : Prop :=
  ∀ (pins : Pins) (s : State), ∃ u, exec (.reset pins) s = .next u ∧
    u.pending = s.pending ∧
    u.role.code = 2 * pins.role1.toNat + pins.role0.toNat ∧
    u.identity.val = 4 * pins.id2.toNat + 2 * pins.id1.toNat + pins.id0.toNat ∧
    u.phase = .start ∧ u.settings = Settings.defaults ∧ u.now = 0 ∧
    u.capture.cap0.pair = pins.cap0 ∧ u.capture.cap1.pair = pins.cap1 ∧ u.capture.cap2.pair = pins.cap2 ∧
    (∀ k : Fin 3, (u.chan k).mode = CapMode.ofRole u.role k ∧ (u.chan k).total = 0 ∧ (u.chan k).lastEdge = none ∧
      (u.chan k).period = none) ∧
    u.capture.gateBlocked = pins.gate ∧ u.safety.stopAsserted = !pins.stop ∧ u.capture.sampleTimer = none ∧
    u.capture.ownDiameter = 0 ∧ u.capture.contact = false ∧ u.capture.barHome = false ∧ u.capture.barEnd = false ∧
    u.capture.motionSeq = 0 ∧ u.capture.rollerSeq = 0 ∧ u.capture.gateSeq = 0 ∧
    u.link = { Link.reset u.role with announceSlot := some ⟨.announce u.role .start .noStem, 0⟩ } ∧
    u.link.keepAlive = some 30000 ∧ u.valves.pwmTimer = 2000 ∧
    (∀ i : Fin 8, i ≠ u.identity → u.peers[i] = Peer.reset) ∧
    u.peers[u.identity].presence = .self ∧ u.peers[u.identity].role = .d226 u.role ∧
    u.fusion = Fusion.reset ∧ u.profile = Profile.reset ∧ u.stem = StemUnit.reset ∧ u.feed = Feed.reset ∧
    u.saw = Saw.reset ∧
    (∀ i : Fin 4, u.valves.channels[i] = Channel.reset) ∧
    u.safety.output = .run ∧ u.safety.arming = none ∧ u.safety.record = FaultRecord.empty ∧
    u.safety.previous = .none ∧ u.safety.faultLine = false

/-! ### What follows the state -/

/-- After every command the state is settled: what follows the state stands as it follows (R35, R146, R152, R167). The SELF
entry shows the station's own phase and stem state (R35), in SILENT too, where that is the model's reading
(notes/assumptions/22.md). -/
def Obligations.EveryCommandLeavesTheStationSettled : Prop :=
  ∀ (c : Instr) (s u : State), exec c s = .next u →
    u.Settled ∧ u.peers[u.identity].phase = u.phase ∧ u.peers[u.identity].stem = u.stem.state

/-- After every command the commanded feed duty of a FEED station is presented to valve channel 0 and takes the first line of
R110's table that applies. -/
def Obligations.FeedDutyFollowsTheState : Prop :=
  ∀ (c : Instr) (s u : State), exec c s = .next u → u.role = .feed →
    u.valves.channels[0].presented = u.feed.feedDuty ∧
    (u.phase ≠ .operating → u.feed.feedDuty = 0) ∧
    (u.phase = .operating → u.safety.output = .stopped → u.feed.feedDuty = 0) ∧
    (u.phase = .operating → u.safety.output = .run → (u.feed.hold = .yielding ∨ u.feed.hold = .held) →
      u.feed.feedDuty = 0) ∧
    (u.phase = .operating → u.safety.output = .run → u.feed.hold = .free → u.feed.mode = .manual →
      u.feed.feedDuty = u.feed.demand) ∧
    (u.phase = .operating → u.safety.output = .run → u.feed.hold = .free → u.feed.mode = .auto →
      u.feed.feedDuty = u.feed.approachDuty)

/-- In a settled state the owners' duties stand on their channels by role: the feed and grip duties (R126), the wheel arm law
(R155, R156), the knife law on both knife channels (R153, R154), the bar and chain duties of the handshake state (R128), and
0 on every other channel (R146). In one that is forced off (STOPPED, START or SILENT) no channel drives a side, and its
buffer, active duty and overload count are 0; in any other the buffer is the presented duty (R146, R152). -/
def Obligations.DutiesAndChannelsFollowTheState : Prop :=
  (∀ s : State, s.Settled →
    (s.role = .feed →
      s.valves.channels[0].presented = s.feed.feedDuty ∧ s.valves.channels[1].presented = s.feed.gripDuty ∧
      s.feed.gripDuty = if s.stem.state = .noStem then 0 else (s.settings.rollerGripDuty : Int)) ∧
    (s.role = .measure →
      s.valves.channels[0].presented =
        (match s.stem.state with
          | .gripped | .running | .atMark | .cutting => (s.settings.wheelPressDuty : Int)
          | .topped | .noStem => if s.valves.wheelLift = none then 0 else -(s.settings.wheelLiftDuty : Int)) ∧
      s.valves.channels[1].presented = 0) ∧
    (s.role = .knife →
      s.valves.channels[0].presented =
        (match s.stem.state with
          | .noStem => 0
          | .gripped | .cutting => (s.settings.knifeGripDuty : Int)
          | .running | .atMark =>
            min 1000 ((s.settings.knifeBase : Int) + ((s.settings.knifeSlope * s.profile.fused / 100 : Nat) : Int))
          | .topped => if s.valves.knifeOpen = none then 0 else -1000) ∧
      s.valves.channels[1].presented = s.valves.channels[0].presented) ∧
    (s.role = .saw →
      s.valves.channels[0].presented = s.saw.barDuty ∧ s.valves.channels[1].presented = s.saw.chainDuty ∧
      s.saw.barDuty =
        (match s.saw.state with
          | .down => (s.settings.barDuty : Int)
          | .ret => -(s.settings.barDuty : Int)
          | .idle | .requested | .spin => 0) ∧
      s.saw.chainDuty =
        (match s.saw.state with
          | .requested | .spin | .down => (s.settings.chainDuty : Int)
          | .idle | .ret => 0)) ∧
    s.valves.channels[2].presented = 0 ∧ s.valves.channels[3].presented = 0) ∧
  (∀ s : State, s.Settled → ∀ i : Fin 4,
    ((s.safety.output = .stopped ∨ s.phase ≠ .operating) →
      s.valves.channels[i].side = none ∧ s.valves.channels[i].buffer = 0 ∧ s.valves.channels[i].active = 0 ∧
      s.valves.channels[i].overload = 0) ∧
    (s.safety.output = .run → s.phase = .operating →
      s.valves.channels[i].buffer = s.valves.channels[i].presented))

/-- The fault line is asserted while the record holds a fault of severity DEGRADE or STOP, and inactive while it is empty or
holds a NOTICE, after every command and after reset (R167). -/
def Obligations.FaultLineFollowsTheRecord : Prop :=
  (∀ (c : Instr) (s u : State), exec c s = .next u →
    (u.safety.faultLine = true ↔ u.safety.record.severity = .degrade ∨ u.safety.record.severity = .stop)) ∧
  State.reset.safety.faultLine = false

/-! ### Shared operations -/

/-- A capture offers the fields of R164 to the record, which takes it under the severity rule of R165: filled when empty,
overwritten by a higher severity with the later count kept, else counted up to 255. A fill or overwrite places a FAULT
NOTICE with the record as it then stands, outside SILENT; a count places none; nothing else changes. A frame placed into a
FIFO goes behind those that wait; into a full one (four frames) it is discarded with NOTICE/QUEUE OVERFLOW naming its class,
the queued frames kept (R28); in SILENT it is discarded without fault (R30). -/
def Obligations.CapturesAndPlacementsFollowTheirRules : Prop :=
  (∀ (s : State) (k : FaultKind) (cls : Option FrameClass) (sender : Option Ident),
    let held := s.safety.record
    let r := (s.report k cls sender).safety.record
    ((held.severity = .none ∨ held.severity.code < k.severity.code) →
      r.severity = k.severity ∧ r.kind = some k ∧ r.serial = s.stem.serial ∧ r.p = s.fusion.p ∧
      r.causeClass = cls ∧ r.causeSender = sender ∧
      r.orderIndex =
        (if s.stem.state = .noStem then 255 else
          match s.activeIndex with
          | some i => i.val
          | none => 255) ∧
      r.laterCount = (if held.severity = .none then 0 else held.laterCount) ∧
      (s.phase ≠ .silent →
        (s.report k cls sender).link.faultSlot = some ⟨.faultNotice r s.safety.previous, 0⟩) ∧
      (s.phase = .silent → (s.report k cls sender).link.faultSlot = s.link.faultSlot)) ∧
    ((held.severity ≠ .none ∧ k.severity.code ≤ held.severity.code) →
      r = { held with laterCount := min 255 (held.laterCount + 1) } ∧
      (s.report k cls sender).link.faultSlot = s.link.faultSlot) ∧
    s.report k cls sender =
      { s with safety.record := r, link.faultSlot := (s.report k cls sender).link.faultSlot }) ∧
  (∀ (s : State) (f : Frame) (r : LogRecord),
    (s.phase = .silent → s.placeHandshake f = s ∧ s.placeLog r = s) ∧
    (s.phase ≠ .silent → s.link.handshake.length < 4 →
      s.placeHandshake f = { s with link.handshake := s.link.handshake ++ [⟨f, 0⟩] }) ∧
    (s.phase ≠ .silent → 4 ≤ s.link.handshake.length →
      s.placeHandshake f = s.report .queueOverflow (some f.cls) none) ∧
    (s.phase ≠ .silent → s.link.logFifo.length < 4 →
      s.placeLog r = { s with link.logFifo := s.link.logFifo ++ [⟨.logRecord r, 0⟩] }) ∧
    (s.phase ≠ .silent → 4 ≤ s.link.logFifo.length →
      s.placeLog r = s.report .queueOverflow (some .logRecord) none))

/-- Recording a frame: an ABSENT or LOST entry becomes PRESENT with a new baseline due and no known sequence number, its role,
stem state, totals and gap count kept; the time last heard of an entry other than SELF is the moment of observation; a
publication shows phase OPERATING; no other entry changes (R36 steps 2 to 4). That recording clears the mark of
an own frame about to be observed is the model's reading (notes/assumptions/3.md). -/
def Obligations.RecordingAFrameRenewsItsSender : Prop :=
  ∀ (s : State) (t : Nat) (f : RawFrame),
    let p := s.peers[f.sender]
    let q := (s.record t f).peers[f.sender]
    ((p.presence = .absent ∨ p.presence = .lost) →
      q.presence = .present ∧ q.baselinePending = true ∧ q.motionSeq = none ∧ q.rollerSeq = none ∧ q.gateSeq = none) ∧
    ((p.presence = .present ∨ p.presence = .self) →
      q.presence = p.presence ∧ q.baselinePending = p.baselinePending ∧ q.motionSeq = p.motionSeq ∧
      q.rollerSeq = p.rollerSeq ∧ q.gateSeq = p.gateSeq) ∧
    q.role = p.role ∧ q.stem = p.stem ∧ q.wheelTotal = p.wheelTotal ∧ q.leftTotal = p.leftTotal ∧
    q.rightTotal = p.rightTotal ∧ q.gapCount = p.gapCount ∧ q.conflict = p.conflict ∧
    (p.presence ≠ .self → q.lastHeard = some (max s.now t) ∧ q.timeout = s.settings.silenceTimeout) ∧
    (p.presence = .self → q.lastHeard = p.lastHeard ∧ q.timeout = p.timeout) ∧
    q.phase =
      (if f.cls = .motion ∨ f.cls = .roller ∨ f.cls = .gate ∨ f.cls = .diameter then .operating else p.phase) ∧
    (∀ i : Fin 8, i ≠ f.sender → (s.record t f).peers[i] = s.peers[i]) ∧
    s.record t f =
      { s with
        now := max s.now t
        link.lineIdle := false
        link.ownCompleted := if f.sender = s.identity then none else s.link.ownCompleted
        peers := (s.record t f).peers }

/-- A capture of STOP severity reaches the record as any capture does, sets the output state to STOPPED and disarms the release;
a local cause places a STOP NOTICE outside SILENT (R159, R160). In STOPPED nothing else happens. From RUN it is the entry into
STOPPED: a FEED station frees its hold and goes to MANUAL at demand 0 (R124), a SAW station discards its record, stops its
timers and goes to IDLE (R142), the handshake view is cleared, an ACTIVE order whose ORDER cut has STARTED becomes INTERRUPTED
(R102), and activation is considered (R105): at every entry, and after the effects of R159, which R159 gives no order; that is the
model's reading (notes/assumptions/20.md). -/
def Obligations.StopCapturesEnterStopped : Prop :=
  ∀ (s : State) (k : FaultKind) (cls : Option FrameClass) (sender : Option Ident) (isLocal : Bool),
    let u := s.captureStop k cls sender isLocal
    let reported := s.report k cls sender
    let placed : State :=
      { reported with
        safety.arming := none
        link.stopSlot :=
          if isLocal = true ∧ s.phase ≠ .silent then some ⟨.stopNotice k s.stem.serial, 0⟩ else s.link.stopSlot }
    let interrupted (i : Fin 12) : Bool :=
      decide (s.stem.view = some ⟨.order, some i, .started⟩) && slotIs .active s.stem.orders[i]
    let stopped : State :=
      { placed with
        safety.output := .stopped
        stem.view := none
        stem.orders := Vector.ofFn fun i =>
          match s.stem.orders[i] with
          | some o => some (if interrupted i then { o with status := .interrupted } else o)
          | none => none
        feed :=
          if s.role = .feed then
            { s.feed with hold := .free, holdRecord := none, mode := .manual, demand := 0, expiry := none }
          else s.feed
        saw :=
          if s.role = .saw then
            { s.saw with
              state := .idle, record := none, grantTimer := none, chainTimer := none, cutTimer := none
              returnTimer := none }
          else s.saw }
    (s.safety.output = .stopped → u = placed) ∧ (s.safety.output = .run → u = stopped.activate) ∧
    u.safety.output = .stopped ∧ u.safety.arming = none ∧ (k.severity = .stop → u.safety.record.severity = .stop)

/-- A change of stem state: the entry into NO STEM leaves the track (R76), empties the profile and thin travel (R84, R87),
frees the hold and ends AUTO (R112, R124) and ends a handshake in REQUESTED (R144); the entry into TOPPED ends AUTO and
starts the knife open timer of a KNIFE station (R154); both start the lift timer of a MEASURE station, and any other change
stops it (R156). -/
def Obligations.StemStateChangesReachTheBlocks : Prop :=
  ∀ (s : State) (new : StemState),
    let u := s.enterStem new
    u.stem = { s.stem with state := new } ∧
    (new = .noStem →
      u.fusion =
        { s.fusion with p := 0, zeroed := false, gateUsed := false, logIntervals := 0, logNonWheel := 0 } ∧
      (∀ k : Fin 400, u.profile.buckets[k] = none) ∧ u.profile.thinTravel = 0 ∧ u.profile.fused = s.profile.fused ∧
      u.feed.hold = .free ∧ u.feed.holdRecord = none ∧
      (s.saw.state = .requested → u.saw.state = .idle ∧ u.saw.record = none ∧ u.saw.grantTimer = none)) ∧
    (new ≠ .noStem → u.fusion = s.fusion ∧ u.profile = s.profile ∧ u.saw = s.saw) ∧
    ((new = .noStem ∨ new = .topped) → u.feed.mode = .manual ∧
      (s.feed.mode = .auto → u.feed.demand = 0 ∧ u.feed.expiry = none)) ∧
    (new ≠ .noStem → new ≠ .topped → u.feed = s.feed) ∧
    u.valves.knifeOpen =
      (if s.role = .knife ∧ new = .topped then some (s.now + s.settings.knifeOpenTime * 1000) else none) ∧
    u.valves.wheelLift =
      (if s.role = .measure ∧ (new = .topped ∨ new = .noStem) then some (s.now + s.settings.wheelLiftTime * 1000)
       else none) ∧
    u = { s with
          stem := u.stem
          fusion := u.fusion
          profile := u.profile
          feed := u.feed
          saw := u.saw
          valves.knifeOpen := u.valves.knifeOpen
          valves.wheelLift := u.valves.wheelLift }

/-! ### The Capture Unit -/

/-- A transition of a QUADRATURE channel's line pair: one step along 00, 10, 11, 01 adds 1 modulo 2^32, one step against it
subtracts 1, any other leaves the total, and the new pair is the reference for the next; in every phase. A channel in
another mode reads nothing (R1, R3, R4). In a MEASURE station a block edge updates the gate level and, in OPERATING, places a
GATE publication with the wheel total and the next sequence number, replacing an unsent one; a clear edge updates the level
alone; in the other roles the gate has no effect (R13, R14, R16). Nothing else changes. -/
def Obligations.InputEdgesAreFollowed : Prop :=
  (∀ (t : Nat) (ch : Fin 3) (l1 l2 : Bool) (s : State), ∃ u,
    exec (.quadratureTransition t ch l1 l2) s = .next u ∧
    let cycle : List ((Bool × Bool) × (Bool × Bool)) :=
      [((false, false), (true, false)), ((true, false), (true, true)), ((true, true), (false, true)),
        ((false, true), (false, false))]
    ((s.chan ch).mode ≠ .quadrature → u.chan ch = s.chan ch) ∧
    ((s.chan ch).mode = .quadrature →
      u.chan ch = { s.chan ch with pair := (l1, l2), total := (u.chan ch).total } ∧
      (((s.chan ch).pair, (l1, l2)) ∈ cycle → (u.chan ch).total = (s.chan ch).total + 1) ∧
      (((l1, l2), (s.chan ch).pair) ∈ cycle → (u.chan ch).total = (s.chan ch).total - 1) ∧
      (((s.chan ch).pair, (l1, l2)) ∉ cycle → ((l1, l2), (s.chan ch).pair) ∉ cycle →
        (u.chan ch).total = (s.chan ch).total)) ∧
    (∀ k, k ≠ ch → u.chan k = s.chan k) ∧
    u = State.refresh
      { s with
        now := max s.now t
        capture.cap0 := u.chan 0
        capture.cap1 := u.chan 1
        capture.cap2 := u.chan 2 }) ∧
  (∀ (t : Nat) (s : State),
    (s.role = .measure → s.capture.gateBlocked = false → s.phase = .operating →
      exec (.gateBlockEdge t) s =
        .next (State.refresh
          { s with
            now := max s.now t
            capture.gateBlocked := true
            capture.gateSeq := s.capture.gateSeq + 1
            link.gateSlot := some ⟨.gate s.capture.gateSeq s.capture.cap2.total, 0⟩ })) ∧
    (s.role = .measure → s.capture.gateBlocked = false → s.phase ≠ .operating →
      exec (.gateBlockEdge t) s =
        .next (State.refresh { s with now := max s.now t, capture.gateBlocked := true })) ∧
    (s.role = .measure →
      exec (.gateClearEdge t) s =
        .next (State.refresh { s with now := max s.now t, capture.gateBlocked := false })) ∧
    (s.role ≠ .measure →
      exec (.gateBlockEdge t) s = .next (State.refresh { s with now := max s.now t }) ∧
      exec (.gateClearEdge t) s = .next (State.refresh { s with now := max s.now t })))

/-- A rising edge of the chain: the first records its time and delivers nothing; an edge up to 10 ms after the last makes the µs
between them the period, which the Saw Sequencer of a SAW station stores in OPERATING. The 10 ms without an edge make time and
period "none", and "none" is delivered. In SPIN a period at or below the threshold brings CUT START with the record's kind,
index and attempt, and DOWN with its cut timer; one above it leaves SPIN. Nothing else changes (R5, R6, R127, R129, R135). -/
def Obligations.ChainEdgesMeasureThePeriodAndStartTheCut : Prop :=
  (∀ (t : Nat) (s : State),
    (s.capture.cap2.mode = .period → s.capture.cap2.lastEdge = none →
      exec (.chainRisingEdge t) s =
        .next (State.refresh { s with now := max s.now t, capture.cap2.lastEdge := some (max s.now t) })) ∧
    (∀ te gap, s.capture.cap2.mode = .period → s.capture.cap2.lastEdge = some te → max s.now t = te + gap →
      1 ≤ gap → gap ≤ 10000 → s.saw.state ≠ .spin →
      exec (.chainRisingEdge t) s =
        .next (State.refresh
          { s with
            now := max s.now t
            capture.cap2.lastEdge := some (max s.now t)
            capture.cap2.period := some gap
            saw.lastPeriod :=
              if s.role = .saw ∧ s.phase = .operating then some gap else s.saw.lastPeriod })) ∧
    (∀ te, s.capture.cap2.lastEdge = some te →
      exec (.chainPeriodExpiry t) s =
        .next (State.refresh
          { s with
            now := max (max s.now t) (te + 10000)
            capture.cap2.lastEdge := none
            capture.cap2.period := none
            saw.lastPeriod := if s.role = .saw ∧ s.phase = .operating then none else s.saw.lastPeriod })) ∧
    (s.capture.cap2.mode ≠ .period →
      exec (.chainRisingEdge t) s = .next (State.refresh { s with now := max s.now t }))) ∧
  (∀ (t te gap : Nat) (s : State) (r : SawRecord),
    s.role = .saw → s.phase = .operating → s.saw.state = .spin → s.saw.record = some r →
    s.capture.cap2.mode = .period → s.capture.cap2.lastEdge = some te → max s.now t = te + gap → 1 ≤ gap →
    gap ≤ 10000 →
    let b : State :=
      { s with
        now := max s.now t
        capture.cap2.lastEdge := some (max s.now t)
        capture.cap2.period := some gap
        saw.lastPeriod := some gap }
    (gap ≤ s.settings.chainThreshold → s.link.handshake.length < 4 →
      exec (.chainRisingEdge t) s =
        .next (State.refresh
          { b with
            link.handshake :=
              s.link.handshake ++ [⟨.cutStart s.stem.serial r.kind r.index r.attempt, 0⟩]
            saw.state := .down
            saw.grantTimer := none
            saw.chainTimer := none
            saw.cutTimer := some (max s.now t + s.settings.cutTimeout * 1000)
            saw.returnTimer := none })) ∧
    (s.settings.chainThreshold < gap → exec (.chainRisingEdge t) s = .next b.refresh))

/-- At a sample instant a station converts its role's input and places its role's publications, each with the next sequence
number and replacing an unsent one, and the sample timer starts again; without a running timer nothing happens (R2, R7, R9,
R10, R15, R16). The FEED clause is for MANUAL; ApproachFollowsTheBands and HaltCheckSettlesTheApproach state AUTO, and
BarFlagsMoveTheSequencer a SAW station. -/
def Obligations.SampleInstantPublishes : Prop :=
  ∀ (t : Nat) (an0 an1 an2 an3 : Raw) (s : State),
    (s.capture.sampleTimer = none →
      exec (.sampleInstant t an0 an1 an2 an3) s = .next (State.refresh { s with now := max s.now t })) ∧
    ∀ due, s.capture.sampleTimer = some due →
      let now := max (max s.now t) due
      let timer := some (now + s.settings.samplePeriod * 1000)
      let contact := decide (s.settings.contactThreshold ≤ an1.toNat)
      let mm (an : Raw) := min 900 (s.settings.diameterZero + an.toNat * s.settings.diameterSpan / 4096)
      (s.role = .measure →
        exec (.sampleInstant t an0 an1 an2 an3) s =
          .next (State.refresh
            { s with
              now := now
              capture.sampleTimer := timer
              capture.contact := contact
              capture.motionSeq := s.capture.motionSeq + 1
              link.motionSlot := some ⟨.motion s.capture.motionSeq s.capture.cap2.total contact, 0⟩ })) ∧
      (s.role = .knife →
        exec (.sampleInstant t an0 an1 an2 an3) s =
          .next (State.refresh
            { s with
              now := now
              capture.sampleTimer := timer
              capture.ownDiameter := mm an2
              link.diameterSlot := some ⟨.diameter (mm an2), 0⟩ })) ∧
      (s.role = .feed → s.feed.mode = .manual →
        exec (.sampleInstant t an0 an1 an2 an3) s =
          .next (State.refresh
            { s with
              now := now
              capture.sampleTimer := timer
              capture.ownDiameter := mm an0
              capture.rollerSeq := s.capture.rollerSeq + 1
              link.rollerSlot := some ⟨.roller s.capture.rollerSeq s.capture.cap0.total s.capture.cap1.total, 0⟩
              link.diameterSlot := some ⟨.diameter (mm an0), 0⟩ }))

/-- At a sample instant a SAW station delivers both bar flags to the sequencer, which stores them and tests them by its state:
BAR END in DOWN places CUT DONE and hands over the marks (R137), BAR HOME in RETURN ends the handshake (R139), retries or
fails it (R140) or ends homing (R143), and the first delivery of OPERATING homes a bar that is out (R143); any other delivery
changes nothing more (R11, R127). -/
def Obligations.BarFlagsMoveTheSequencer : Prop :=
  ∀ (t : Nat) (an0 an1 an2 an3 : Raw) (s : State) (due : Nat),
    s.role = .saw → s.phase = .operating → s.capture.sampleTimer = some due →
    let home := decide (an3.toNat ≤ s.settings.barHomeThreshold)
    let atEnd := decide (s.settings.barEndThreshold ≤ an3.toNat)
    let b : State :=
      { s with
        now := max (max s.now t) due
        capture.sampleTimer := some (max (max s.now t) due + s.settings.samplePeriod * 1000)
        capture.barHome := home
        capture.barEnd := atEnd
        saw.lastHome := home
        saw.lastEnd := atEnd
        saw.firstDelivery := false }
    let run := exec (.sampleInstant t an0 an1 an2 an3) s
    (∀ r, s.saw.state = .down → s.saw.record = some r → atEnd = true →
      run = .next ({ b.placeHandshake (.cutDone s.stem.serial r.kind r.index s.fusion.p) with
        stem.offsizeMark := r.offsize
        stem.disputeMark := r.dispute
        saw.record := some { r with cutDone := true } }.sawEnter .ret).refresh) ∧
    (∀ r, s.saw.state = .ret → s.saw.record = some r → home = true → r.cutDone = true →
      run = .next (({ b with saw.record := none }.placeHandshake
        (.holdRelease s.stem.serial r.kind r.index .done)).sawEnter .idle).refresh) ∧
    (∀ r, s.saw.state = .ret → s.saw.record = some r → home = true → r.cutDone = false →
      r.attempt ≤ s.settings.cutRetries →
      run = .next ({ b with saw.record := some { r with attempt := r.attempt + 1 } }.sawEnter .spin).refresh) ∧
    (∀ r, s.saw.state = .ret → s.saw.record = some r → home = true → r.cutDone = false →
      s.settings.cutRetries < r.attempt →
      run = .next ((({ b with saw.record := none }.placeHandshake
        (.holdRelease s.stem.serial r.kind r.index .failed)).sawEnter .idle).report .cutFailed none none).refresh) ∧
    (s.saw.state = .ret → s.saw.record = none → home = true → run = .next (b.sawEnter .idle).refresh) ∧
    (s.saw.state = .idle → s.saw.firstDelivery = true → home = false → s.safety.output = .run →
      run = .next ({ b with saw.record := none }.sawEnter .ret).refresh) ∧
    ((s.saw.state = .requested ∨ s.saw.state = .spin ∨ (s.saw.state = .down ∧ atEnd = false) ∨
        (s.saw.state = .ret ∧ home = false) ∨
        (s.saw.state = .idle ∧ (s.saw.firstDelivery = false ∨ home = true ∨ s.safety.output = .stopped))) →
      run = .next b.refresh)

/-! ### The approach -/

/-- In AUTO a sample instant first places ROLLER and DIAMETER (R15) and then sets the approach (R116). Outside RUNNING and AT
MARK, not zeroed, or without an ACTIVE order, the duty is 0 and no order is approached. A new ACTIVE order begins in APPROACH
with no previous d and no attempts. In APPROACH, with d the distance to the mark and the mark not crossed since the last
instant, the duty follows the bands; a crossing, and a d within the halt window, enter SETTLE, whose check is made at the same
instant: what follows is that of an instant in SETTLE (R117). -/
def Obligations.ApproachFollowsTheBands : Prop :=
  ∀ (t : Nat) (an0 an1 an2 an3 : Raw) (s : State) (due : Nat),
    s.role = .feed → s.phase = .operating → s.feed.mode = .auto → s.capture.sampleTimer = some due →
    let run := exec (.sampleInstant t an0 an1 an2 an3) s
    let mm := min 900 (s.settings.diameterZero + an0.toNat * s.settings.diameterSpan / 4096)
    let b : State :=
      { s with
        now := max (max s.now t) due
        capture.sampleTimer := some (max (max s.now t) due + s.settings.samplePeriod * 1000)
        capture.ownDiameter := mm
        capture.rollerSeq := s.capture.rollerSeq + 1
        link.rollerSlot := some ⟨.roller s.capture.rollerSeq s.capture.cap0.total s.capture.cap1.total, 0⟩
        link.diameterSlot := some ⟨.diameter mm, 0⟩ }
    (((s.stem.state ≠ .running ∧ s.stem.state ≠ .atMark) ∨ s.fusion.zeroed = false ∨ s.activeOrder = none) →
      run = .next (State.refresh { b with feed.approachDuty := 0, feed.approachOrder := none })) ∧
    ∀ (i : Fin 12) (o : Order),
      (s.stem.state = .running ∨ s.stem.state = .atMark) → s.fusion.zeroed = true →
      s.activeIndex = some i → s.stem.orders[i] = some o →
      let fresh := decide (s.feed.approachOrder ≠ some i)
      (fresh = true ∨ s.feed.stage = .approach) →
        let d : Int := o.target * 1000 - s.fusion.p
        let brake : Int := s.settings.brakeDistance * 1000
        let window : Int := s.settings.haltWindow * 1000
        let approached : Feed :=
          { s.feed with
            approachOrder := some i
            attempts := if fresh then 0 else s.feed.attempts
            previousD := some d }
        let drives (duty : Int) : Prop :=
          run = .next (State.refresh { b with feed := { approached with stage := .approach, approachDuty := duty } })
        let crossed : Prop :=
          fresh = false ∧ ∃ q, s.feed.previousD = some q ∧ ((0 < q ∧ d < 0) ∨ (q < 0 ∧ 0 < d))
        (¬ crossed → brake < d → drives s.settings.fullDuty) ∧
        (¬ crossed → d ≤ brake → window < d → drives s.settings.creepDuty) ∧
        (¬ crossed → d ≤ brake → d < -window → drives (-(s.settings.creepDuty : Int))) ∧
        ((crossed ∨ (d ≤ brake ∧ d ≤ window ∧ -window ≤ d)) →
          run = exec (.sampleInstant t an0 an1 an2 an3) { s with feed := { approached with stage := .settle } })

/-- A sample instant in AUTO in the later stages of an approach, after the publications of R15. SETTLE: a stem not stopped waits
at duty 0; a stopped one within the order's tolerances is HALTED with offsize 0; one outside them counts an attempt and is
HALTED with offsize 1 once the attempts exceed the halt attempts setting, else corrected in the direction of the mark at creep
duty; a HALTED takes the stage to WAIT, into a full FIFO too (R118, R120). CORRECT: within the tolerances, or past the mark,
back to SETTLE at duty 0, else on at creep duty (R119); that the check after it comes at the next instant is the model's
reading (notes/assumptions/15.md). WAIT: duty 0 (R120). -/
def Obligations.HaltCheckSettlesTheApproach : Prop :=
  ∀ (t : Nat) (an0 an1 an2 an3 : Raw) (s : State) (due : Nat) (i : Fin 12) (o : Order),
    s.role = .feed → s.phase = .operating → s.feed.mode = .auto → s.capture.sampleTimer = some due →
    (s.stem.state = .running ∨ s.stem.state = .atMark) → s.fusion.zeroed = true → s.activeIndex = some i →
    s.stem.orders[i] = some o → s.feed.approachOrder = some i →
    let answers (u : State) : Prop := exec (.sampleInstant t an0 an1 an2 an3) s = .next u.refresh
    let mm := min 900 (s.settings.diameterZero + an0.toNat * s.settings.diameterSpan / 4096)
    let b : State :=
      { s with
        now := max (max s.now t) due
        capture.sampleTimer := some (max (max s.now t) due + s.settings.samplePeriod * 1000)
        capture.ownDiameter := mm
        capture.rollerSeq := s.capture.rollerSeq + 1
        link.rollerSlot := some ⟨.roller s.capture.rollerSeq s.capture.cap0.total s.capture.cap1.total, 0⟩
        link.diameterSlot := some ⟨.diameter mm, 0⟩ }
    let e : Int := s.fusion.p - o.target * 1000
    let inBand : Prop := -((o.tolMinus : Int) * 1000) ≤ e ∧ e ≤ (o.tolPlus : Int) * 1000
    let creep : Int := s.settings.creepDuty
    let attempts := min 255 (s.feed.attempts + 1)
    let halts (u : State) (offsize : Bool) : Prop :=
      let v := u.placeHandshake (.halted s.stem.serial (some i) s.fusion.p offsize)
      answers { v with feed.stage := .wait, feed.approachDuty := 0 }
    (s.feed.stage = .settle →
      (s.feed.stoppedCount ≠ 2 → answers { b with feed.approachDuty := 0 }) ∧
      (s.feed.stoppedCount = 2 → inBand → halts b false) ∧
      (s.feed.stoppedCount = 2 → ¬ inBand → s.settings.haltAttempts < attempts →
        halts { b with feed.attempts := attempts } true) ∧
      (s.feed.stoppedCount = 2 → ¬ inBand → attempts ≤ s.settings.haltAttempts →
        (e < 0 →
          answers
            { b with
              feed.attempts := attempts, feed.stage := .correct, feed.direction := .forward
              feed.approachDuty := creep }) ∧
        (0 ≤ e →
          answers
            { b with
              feed.attempts := attempts, feed.stage := .correct, feed.direction := .reverse
              feed.approachDuty := -creep }))) ∧
    (s.feed.stage = .correct →
      let ended : Prop :=
        inBand ∨ (s.feed.direction = .forward ∧ 0 < e) ∨ (s.feed.direction = .reverse ∧ e < 0)
      (ended → answers { b with feed.stage := .settle, feed.approachDuty := 0 }) ∧
      (¬ ended → s.feed.direction = .forward → answers { b with feed.approachDuty := creep }) ∧
      (¬ ended → s.feed.direction = .reverse → answers { b with feed.approachDuty := -creep })) ∧
    (s.feed.stage = .wait → answers { b with feed.approachDuty := 0 })

/-! ### The Link Controller -/

/-- On an idle line a station that is not SILENT and has no frame on it takes the pending frame of lowest class: the frame in
an occupied slot or the oldest of a FIFO. A slot that replaces is then free, every other source keeps its frame. With
nothing pending the line is seen idle and nothing else changes (R16, R18, R29). That a waiting FIFO, answer or ANNOUNCE
frame stays in its source is the model's reading (notes/assumptions/7.md). -/
def Obligations.IdleLineTakesTheLowestClass : Prop :=
  ∀ (t : Nat) (s : State), ∃ u, exec (.lineIdle t) s = .next u ∧
    u = State.refresh { s with now := max s.now t, link := u.link } ∧
    (s.phase ≠ .silent → s.link.onLine = none → (∀ src, s.link.head src = none) →
      u.link = { s.link with lineIdle := true }) ∧
    (s.phase ≠ .silent → s.link.onLine = none → (∃ src f, s.link.head src = some f) →
      ∃ src f, s.link.head src = some f ∧ u.link.onLine = some (src, f) ∧
        (∀ src' f', s.link.head src' = some f' → f.frame.cls.number ≤ f'.frame.cls.number) ∧
        u.link.head src = (if src.replaces then none else some f) ∧
        (∀ src', src' ≠ src → u.link.head src' = s.link.head src') ∧
        u.link.handshake = s.link.handshake ∧ u.link.logFifo = s.link.logFifo ∧
        u.link.txFailures = s.link.txFailures ∧ u.link.checkFailures = s.link.checkFailures ∧
        u.link.keepAlive = s.link.keepAlive ∧ u.link.repeatMark = s.link.repeatMark) ∧
    (s.phase = .silent → u.link = { s.link with lineIdle := true })

/-- A frame that loses arbitration, or is disturbed with fewer than 32 failures, returns to its source, where a newer frame in a
slot that replaces stays in its place. Losing arbitration counts nothing; a disturbance counts one failure on the frame and
one in the transmit-failure count; without a frame on the line nothing happens (R21, R22, R29). At the 32nd failed attempt the
frame is dropped: DEGRADE/TX FAILING names its class and the station, the next frame of a FIFO becomes its oldest, and a
dropped ANNOUNCE with the repeat mark set is followed by a fresh one (R22, R33). -/
def Obligations.FailedFramesReturnOrAreDropped : Prop :=
  (∀ (t : Nat) (s : State),
    (s.link.onLine = none →
      exec (.arbitrationLost t) s = .next (State.refresh { s with now := max s.now t }) ∧
      exec (.frameDisturbed t) s = .next (State.refresh { s with now := max s.now t })) ∧
    ∀ src f, s.link.onLine = some (src, f) →
      let back (g : TxFrame) := if src.replaces ∧ (s.link.head src).isSome then s.link.head src else some g
      (∃ u, exec (.arbitrationLost t) s = .next u ∧
        u = State.refresh { s with now := max s.now t, link := u.link } ∧
        u.link.onLine = none ∧ u.link.head src = back f ∧
        (∀ src', src' ≠ src → u.link.head src' = s.link.head src') ∧
        u.link.handshake.tail = s.link.handshake.tail ∧ u.link.logFifo.tail = s.link.logFifo.tail ∧
        u.link.txFailures = s.link.txFailures ∧ u.link.checkFailures = s.link.checkFailures) ∧
      (f.attempts + 1 < 32 →
        ∃ u, exec (.frameDisturbed t) s = .next u ∧
          u = State.refresh { s with now := max s.now t, link := u.link } ∧
          u.link.onLine = none ∧ u.link.head src = back { f with attempts := f.attempts + 1 } ∧
          (∀ src', src' ≠ src → u.link.head src' = s.link.head src') ∧
          u.link.handshake.tail = s.link.handshake.tail ∧ u.link.logFifo.tail = s.link.logFifo.tail ∧
          u.link.txFailures = min 255 (s.link.txFailures + 1) ∧ u.link.checkFailures = s.link.checkFailures)) ∧
  (∀ (t : Nat) (s : State) (src : TxSource) (f : TxFrame),
    s.link.onLine = some (src, f) → 32 ≤ f.attempts + 1 → s.phase ≠ .silent →
    ∃ u, exec (.frameDisturbed t) s = .next u ∧
      u.link.onLine = none ∧ u.link.txFailures = min 255 (s.link.txFailures + 1) ∧
      u.link.handshake = (if src = .handshake then s.link.handshake.tail else s.link.handshake) ∧
      u.link.logFifo = (if src = .log then s.link.logFifo.tail else s.link.logFifo) ∧
      (src = .answer → u.link.answerSlot = none) ∧
      (src = .announce → u.link.announceSlot =
        (if s.link.repeatMark then some ⟨.announce s.role s.phase s.stem.state, 0⟩ else none) ∧
        u.link.repeatMark = false) ∧
      u.safety.record =
        (s.report .txFailing (some f.frame.cls) (some s.identity)).safety.record ∧
      u = State.refresh { s with now := max s.now t, link := u.link, safety := u.safety })

/-- An own frame completes: it leaves its source, the keep-alive timer starts again for half the silence timeout, the frame is
about to be observed as the station's own, and an ANNOUNCE with the repeat mark set is followed by a fresh one (R23, R29,
R32, R33; the mark of the frame about to be observed is the model's, notes/assumptions/3.md). -/
def Obligations.CompletedFramesLeaveTheirSource : Prop :=
  ∀ (t : Nat) (s : State),
    (s.link.onLine = none → exec (.transmitComplete t) s = .next (State.refresh { s with now := max s.now t })) ∧
    ∀ src f, s.link.onLine = some (src, f) →
      ∃ u, exec (.transmitComplete t) s = .next u ∧
        u = State.refresh { s with now := max s.now t, link := u.link } ∧
        u.link.onLine = none ∧ u.link.ownCompleted = some ⟨f.frame.cls, s.identity, f.frame.payload⟩ ∧
        u.link.keepAlive = some (max s.now t + s.settings.silenceTimeout / 2 * 1000) ∧
        u.link.handshake = (if src = .handshake then s.link.handshake.tail else s.link.handshake) ∧
        u.link.logFifo = (if src = .log then s.link.logFifo.tail else s.link.logFifo) ∧
        u.link.answerSlot = (if src = .answer then none else s.link.answerSlot) ∧
        u.link.announceSlot =
          (if src = .announce then
            (if s.link.repeatMark then some ⟨.announce s.role s.phase s.stem.state, 0⟩ else none)
           else s.link.announceSlot) ∧
        u.link.repeatMark = (if src = .announce then false else s.link.repeatMark) ∧
        (∀ src', src'.replaces = true → u.link.head src' = s.link.head src') ∧
        u.link.txFailures = s.link.txFailures ∧ u.link.checkFailures = s.link.checkFailures

/-- A frame that fails its check is discarded whole: the check-failure count rises to at most 255 and NOTICE/LINK CHECK is
captured without a cause; no entry of the Peer Table changes (R20). The keep-alive timer expires: an ANNOUNCE is called for
and the timer starts again for half the silence timeout. The call fills an empty slot, is absorbed by an unsent ANNOUNCE of
the same phase, and sets the repeat mark at one of another phase (R31, R32, R33). -/
def Obligations.FailedChecksAndTheKeepAliveTimer : Prop :=
  (∀ (t : Nat) (why : CheckFailure) (s : State),
    exec (.linkCheckFail t why) s =
      .next (({ s with
        now := max s.now t
        link.lineIdle := false
        link.checkFailures := min 255 (s.link.checkFailures + 1) }.report .linkCheck none none).refresh)) ∧
  (∀ (t due : Nat) (s : State), s.link.keepAlive = some due → s.phase ≠ .silent →
    let now := max (max s.now t) due
    let timer := some (now + s.settings.silenceTimeout / 2 * 1000)
    (s.link.announceSlot = none →
      exec (.keepAliveExpiry t) s =
        .next (State.refresh
          { s with
            now := now
            link.keepAlive := timer
            link.announceSlot := some ⟨.announce s.role s.phase s.stem.state, 0⟩ })) ∧
    (∀ r m n, s.link.announceSlot = some ⟨.announce r s.phase m, n⟩ →
      exec (.keepAliveExpiry t) s = .next (State.refresh { s with now := now, link.keepAlive := timer })) ∧
    (∀ r ph m n, s.link.announceSlot = some ⟨.announce r ph m, n⟩ → ph ≠ s.phase →
      exec (.keepAliveExpiry t) s =
        .next (State.refresh { s with now := now, link.keepAlive := timer, link.repeatMark := true })))

/-- What a station puts on the line is what a receiver reads: the bits of every frame whose length fits its class, stuffed and
with check word and delimiters, are received as that frame (R18, R19, R20). The stuff bit after a run of five at the
end of the check word is the model's reading (notes/assumptions/18.md). -/
def Obligations.ReceiversReadWhatSendersWrite : Prop :=
  ∀ f : RawFrame, lengthOk f.cls f.payload.length = true → receiveBits f.wire = .ok f

/-! ### The Peer Table -/

/-- A PRESENT peer silent for the timeout in force when it was last heard becomes LOST, its mark cleared and the rest of its
entry kept, with DEGRADE/PEER LOST naming it. A feed station that is not FREE and loses an unmarked SAW peer captures
STOP/HOLD ORPHANED as well (R37, R125). -/
def Obligations.SilentPeersAreLost : Prop :=
  ∀ (t heard : Nat) (i : Ident) (s : State), s.peers[i].presence = .present → s.peers[i].lastHeard = some heard →
    s.phase ≠ .silent →
    let lost : State :=
      ({ s with
        now := max (max s.now t) (heard + s.peers[i].timeout * 1000)
        peers := s.peers.set i { s.peers[i] with presence := .lost, conflict := false } } : State).report .peerLost none
          (some i)
    ((s.role = .feed ∧ s.feed.hold ≠ .free ∧ s.peers[i].role = .d226 .saw ∧ s.peers[i].conflict = false) →
      exec (.peerSilenceTimeout t i) s =
        .next (lost.captureStop .holdOrphaned none (some i) true).refresh) ∧
    (¬ (s.role = .feed ∧ s.feed.hold ≠ .free ∧ s.peers[i].role = .d226 .saw ∧ s.peers[i].conflict = false) →
      exec (.peerSilenceTimeout t i) s = .next lost.refresh)

/-- A valid ANNOUNCE of another station sets its entry's role, phase and stem state; a change of role, a return from ABSENT or
LOST, or a restart (START from a PRESENT entry that showed OPERATING) makes a new baseline due; a role that SELF or another
PRESENT unmarked entry holds sets the CONFLICT mark, and any other clears it; a join or a restart calls for the station's
own ANNOUNCE. Restart and new conflict are captured (R31, R38, R39, R40). -/
def Obligations.AnnounceSetsTheEntry : Prop :=
  ∀ (t : Nat) (i : Ident) (role phase stem revision : Byte) (r : PeerRole) (ph : Phase) (m : StemState) (s : State),
    s.phase ≠ .silent → i ≠ s.identity → s.peers[i].presence ≠ .self → PeerRole.ofCode role = some r →
    Phase.ofAnnounce phase = some ph → StemState.ofCode stem = some m →
    ∃ u, exec (.announce t i role phase stem revision) s = .next u ∧
      let p := s.peers[i]
      let joined : Prop := p.presence = .absent ∨ p.presence = .lost
      let restarted : Prop := p.presence = .present ∧ p.phase = .operating ∧ ph = .start
      let held : Prop :=
        ∃ j : Fin 8, j ≠ i ∧ s.peers[j].role = r ∧
          (s.peers[j].presence = .self ∨ (s.peers[j].presence = .present ∧ s.peers[j].conflict = false))
      let fresh : Prop := joined ∨ restarted ∨ p.role ≠ r
      let newlyMarked : Prop := held ∧ p.conflict = false
      u.peers[i].presence = .present ∧ u.peers[i].role = r ∧ u.peers[i].phase = ph ∧ u.peers[i].stem = m ∧
      u.peers[i].lastHeard = some (max s.now t) ∧ u.peers[i].timeout = s.settings.silenceTimeout ∧
      (u.peers[i].conflict = true ↔ held) ∧
      (u.peers[i].baselinePending = true ↔ (p.baselinePending = true ∨ fresh ∨ newlyMarked)) ∧
      (fresh → u.peers[i].motionSeq = none ∧ u.peers[i].rollerSeq = none ∧ u.peers[i].gateSeq = none) ∧
      (¬ fresh → u.peers[i].motionSeq = p.motionSeq ∧ u.peers[i].rollerSeq = p.rollerSeq ∧
        u.peers[i].gateSeq = p.gateSeq) ∧
      u.peers[i].wheelTotal = p.wheelTotal ∧ u.peers[i].leftTotal = p.leftTotal ∧
      u.peers[i].rightTotal = p.rightTotal ∧ u.peers[i].gapCount = p.gapCount ∧
      (∀ j : Fin 8, j ≠ i → j ≠ s.identity → u.peers[j] = s.peers[j]) ∧
      ((joined ∨ restarted) → s.link.announceSlot = none →
        u.link.announceSlot = some ⟨.announce s.role s.phase s.stem.state, 0⟩) ∧
      (¬ joined → ¬ restarted → u.link.announceSlot = s.link.announceSlot ∧ u.link.repeatMark = s.link.repeatMark) ∧
      (restarted → ¬ newlyMarked → u.safety.record =
        (s.report .peerRestarted (some .announce) (some i)).safety.record) ∧
      (¬ restarted → newlyMarked → u.safety.record =
        (s.report .roleConflict (some .announce) (some i)).safety.record) ∧
      (¬ restarted → ¬ newlyMarked → u.safety.record = s.safety.record) ∧
      u = State.refresh
        { s with now := max s.now t, link := u.link, peers := u.peers, safety := u.safety }

/-- A frame that no block acts on is recorded by the Peer Table and has no other effect (R24, R36). So is a frame whose sender
fails the role filter, by role or CONFLICT mark, MOTION, ROLLER and GATE included, ANNOUNCE apart (R25, R43); a stem-scoped
frame in NO STEM or of another serial (R26); a frame addressed to another (R27); one with a coded field outside its table, an
ANNOUNCE and a contact above 1 included (R24 step 5, R38, R43); a frame that START ignores, STEM OPEN, FEED MODE, the
stem-scoped classes and the delivery of a DIAMETER among them (R77, R172); and the station's own ANNOUNCE (R35). In SILENT an
observed frame reaches no block: only the clock and the line state change (R24, R42). -/
def Obligations.UnheardFramesReachNoBlock : Prop :=
  (∀ (c : Instr) (f : RawFrame) (s : State), observedFrame c = some f → s.phase ≠ .silent →
    (f.sender = s.identity → s.isOwn f = true) →
    let recorded : Prop := exec c s = .next (s.record (Instr.time c) f).refresh
    ((∃ t i cls payload, c = .otherFrameObserved t i cls payload) → recorded) ∧
    (f.cls ≠ .announce → s.roleFilter f.cls f.sender = false → recorded) ∧
    (∀ serial, Instr.stemSerial c = some serial → (s.stem.state = .noStem ∨ serial ≠ s.stem.serial) → recorded) ∧
    (∀ a, Instr.addressee c = some a → a.toNat ≠ s.identity.val → a.toNat ≠ 255 → recorded) ∧
    (Instr.codesOk c = false → recorded) ∧
    (s.phase = .start → Instr.ignoredInStart c = true → recorded) ∧
    (f.cls = .announce → f.sender = s.identity → recorded)) ∧
  (∀ (c : Instr) (f : RawFrame) (s : State), observedFrame c = some f → s.phase = .silent →
    exec c s = .next (State.refresh { s with now := max s.now (Instr.time c), link.lineIdle := false }))

/-- A frame with the station's own identity that it did not send to completion is an identity conflict: STOP/ID CONFLICT with
the frame's class and the own identity, and SILENT, in which nothing waits to be sent, no timer of a block runs and every
channel is off (R36 step 1, R41, R177, R30). That a frame is not the
station's own is read from the mark of the frame it has completed, and which timers stop is all but the PWM period timer: the
model's readings (notes/assumptions/3.md and 16.md). -/
def Obligations.ForeignOwnIdentitySilencesTheStation : Prop :=
  ∀ (c : Instr) (f : RawFrame) (s : State), observedFrame c = some f → s.phase ≠ .silent → f.sender = s.identity →
    s.isOwn f = false →
    ∃ u, exec c s = .next u ∧ u.phase = .silent ∧ u.safety.output = .stopped ∧ u.SilentIsStill ∧
      u.safety.record.severity = .stop ∧
      (s.safety.record.severity ≠ .stop → u.safety.record.kind = some .idConflict ∧
        u.safety.record.causeClass = some f.cls ∧ u.safety.record.causeSender = some s.identity) ∧
      (∀ i : Fin 4, u.valves.channels[i].side = none) ∧ (∀ i : Fin 8, i ≠ s.identity → u.peers[i] = s.peers[i]) ∧
      u.settings = s.settings ∧ u.role = s.role ∧ u.identity = s.identity

/-! ### Length fusion -/

/-- A MOTION frame with a contact of 0 or 1 that is heard. From an entry with a baseline due it is stored without a delta, and in
OPERATING the timeout credit becomes 0. With a delta it is stored, missed frames are counted with NOTICE/SEQ GAP, and in START
nothing is delivered (R43 to R46, R51). In OPERATING it closes the interval: with w the wheel distance less the credit and r
the roller distance, no roller frames give WHEEL ONLY and w; no contact LIFT and r; else the pair enters the ring and its sums
W and R decide CONFLICT (0), ROLLER SLIP (w), WHEEL OVERRUN (r) or AGREE (w). On a live track P moves by the choice, clamped
with DEGRADE/POSITION CLAMPED, and the change goes to the Profile Unit; the counts follow the verdict; 16 non-wheel intervals
on a live track bring DEGRADE/TRACK DEGRADED once; accumulator and credit end at 0 and the closing timer starts again (R52,
R53, R55, R56, R62 to R67). That the change is handed over before the counts and TRACK DEGRADED is the model's choice
(notes/assumptions/23.md). -/
def Obligations.MotionStoresABaselineOrClosesTheInterval : Prop :=
  ∀ (t : Nat) (i : Ident) (seq : Byte) (total : Word) (contact : Byte) (s : State),
    let c : Instr := .motion t i seq total contact
    s.hears c → contact.toNat ≤ 1 →
    let b := s.heard c
    let p0 := b.peers[i]
    let q : Peer := { p0 with wheelTotal := total, motionSeq := some seq, baselinePending := false }
    let missed : Nat :=
      match p0.motionSeq with
      | some k => (seq - k).toNat - 1
      | none => 0
    let stored : State := { b with peers := b.peers.set i q }
    let gapped : State :=
      if missed = 0 then stored
      else
        State.report { b with peers := b.peers.set i { q with gapCount := min 255 (q.gapCount + missed) } } .seqGap
          (some .motion) (some i)
    let n : Int := (total - p0.wheelTotal).toInt
    let w0 := n * s.settings.wheelScale
    let w := w0 + Int.tdiv (w0 * calLookup s.fusion.working s.profile.diameterClass) 10000 - s.fusion.credit
    let l := s.fusion.leftSum
    let g := s.fusion.rightSum
    let counts := if (0 < l ∧ 0 < g) ∨ (l < 0 ∧ g < 0) then (if l.natAbs ≤ g.natAbs then l else g) else 0
    let r := counts * s.settings.rollerScale
    let newest (e : RingEntry) := (s.fusion.ring ++ [e]).drop (s.fusion.ring.length + 1 - 4)
    let both := newest ⟨some w, some r⟩
    let sumW := (ringSums both).1
    let sumR := (ringSums both).2
    let allowance : Int :=
      max (s.settings.slipAllowance : Int) (Int.tdiv ((sumR.natAbs : Int) * s.settings.slipProportion) 1000)
    let signs : Prop := (0 < sumW ∧ sumR < 0) ∨ (sumW < 0 ∧ 0 < sumR)
    let closes (verdict : Verdict) (chosen : Int) (ring : List RingEntry) : Prop :=
      let sum := s.fusion.p + chosen
      let p := if s.live then max (-1000000) (min 40000000 sum) else s.fusion.p
      let moved : State := { gapped with fusion.p := p }
      let clamped : State :=
        if s.live = true ∧ (sum < -1000000 ∨ 40000000 < sum) then
          moved.report .positionClamped (some .motion) (some i)
        else moved
      let handed := clamped.handOver (p - s.fusion.p)
      let nonWheel := decide (verdict = .lift ∨ verdict = .wheelOverrun ∨ verdict = .conflict)
      let run := if nonWheel then min 255 (s.fusion.nonWheelRun + 1) else 0
      let tell := decide (16 ≤ run) && s.live && !s.fusion.degradedReported
      let told : State := if tell then handed.report .trackDegraded (some .motion) (some i) else handed
      exec c s =
        .next (State.refresh
          { told with
            fusion :=
              { s.fusion with
                p := p
                leftSum := 0
                rightSum := 0
                frames := 0
                credit := 0
                ring := ring
                closing := some (max s.now t + 3 * s.settings.samplePeriod * 1000)
                verdict := verdict
                nonWheelRun := run
                degradedReported := nonWheel && (s.fusion.degradedReported || tell)
                emptyRun := 0
                logIntervals := min 255 (s.fusion.logIntervals + 1)
                logNonWheel := if nonWheel then min 255 (s.fusion.logNonWheel + 1) else s.fusion.logNonWheel } })
    (p0.baselinePending = true →
      exec c s =
        .next (State.refresh
          { stored with fusion.credit := if s.phase = .operating then 0 else s.fusion.credit })) ∧
    (p0.baselinePending = false → s.phase = .start → exec c s = .next gapped.refresh) ∧
    (p0.baselinePending = false → s.phase = .operating →
      (s.fusion.frames = 0 → closes .wheelOnly w (newest ⟨some w, none⟩)) ∧
      (s.fusion.frames ≠ 0 → contact.toNat = 0 → closes .lift r (newest ⟨none, some r⟩)) ∧
      (s.fusion.frames ≠ 0 → contact.toNat = 1 →
        (signs → closes .conflict 0 both) ∧
        (¬ signs → allowance < (sumR.natAbs : Int) - sumW.natAbs → closes .rollerSlip w both) ∧
        (¬ signs → (sumR.natAbs : Int) - sumW.natAbs ≤ allowance → allowance < (sumW.natAbs : Int) - sumR.natAbs →
          closes .wheelOverrun r both) ∧
        (¬ signs → (sumR.natAbs : Int) - sumW.natAbs ≤ allowance → (sumW.natAbs : Int) - sumR.natAbs ≤ allowance →
          closes .agree w both)))

/-- A ROLLER frame that is heard: from an entry with a baseline due it is stored without deltas; with deltas it is stored and
missed frames are counted with NOTICE/SEQ GAP. In OPERATING the deltas go to the accumulator and the frame is counted; in START
nothing is delivered (R44 to R46, R51, R54). In OPERATING a FEED station's own ROLLER frames move the stopped count, a baseline
or any movement to 0, and in YIELDING a count of 2 brings HELD and HOLD GRANT (R115, R122). -/
def Obligations.RollersAccumulate : Prop :=
  ∀ (t : Nat) (i : Ident) (seq : Byte) (left right : Word) (s : State),
    let c : Instr := .roller t i seq left right
    s.hears c →
    let b := s.heard c
    let p := b.peers[i]
    let q : Peer :=
      { p with leftTotal := left, rightTotal := right, rollerSeq := some seq, baselinePending := false }
    let missed : Nat :=
      match p.rollerSeq with
      | some k => (seq - k).toNat - 1
      | none => 0
    let gapped : State :=
      if p.baselinePending = true ∨ missed = 0 then { b with peers := b.peers.set i q }
      else
        State.report { b with peers := b.peers.set i { q with gapCount := min 255 (q.gapCount + missed) } } .seqGap
          (some .roller) (some i)
    let dl : Int := (left - p.leftTotal).toInt
    let dr : Int := (right - p.rightTotal).toInt
    let working : Prop := s.phase = .operating
    let arrived : State :=
      if s.phase = .operating ∧ p.baselinePending = false then
        { gapped with
          fusion.leftSum := s.fusion.leftSum + dl
          fusion.rightSum := s.fusion.rightSum + dr
          fusion.frames := min 255 (s.fusion.frames + 1) }
      else gapped
    let own : Prop := working ∧ s.role = .feed ∧ i = s.identity
    let count : Nat :=
      if p.baselinePending = false ∧ dl = 0 ∧ dr = 0 then min 2 (s.feed.stoppedCount + 1) else 0
    let counted : State := { arrived with feed.stoppedCount := count }
    (¬ own → exec c s = .next arrived.refresh) ∧
    (own → (s.feed.hold ≠ .yielding ∨ s.feed.holdRecord = none ∨ count ≠ 2) → exec c s = .next counted.refresh) ∧
    (own → ∀ h, s.feed.hold = .yielding → s.feed.holdRecord = some h → count = 2 →
      exec c s =
        .next (State.placeHandshake { counted with feed.hold := .held }
          (.holdGrant s.stem.serial h.kind h.index)).refresh)

/-- A GATE frame that is heard stores its sequence number, missed frames being counted with NOTICE/SEQ GAP; in START nothing is
delivered (R46, R51). In OPERATING the first block edge of a log on a live track, from an entry with a wheel total to refer it
to: the error e of the estimate at the edge is taken off P when it lies within the gate window, within the range of P (a clamp
captures DEGRADE/POSITION CLAMPED), and is refused with NOTICE/GATE IMPLAUSIBLE otherwise; either way gate-used is set. Any
other edge changes nothing but its sender's entry. Nothing is handed to the Profile Unit (R48, R53, R72, R73). -/
def Obligations.GateCorrectsTheTrackOnce : Prop :=
  ∀ (t : Nat) (i : Ident) (seq : Byte) (total : Word) (s : State),
    let c : Instr := .gate t i seq total
    s.hears c →
    let b := s.heard c
    let p := b.peers[i]
    let q : Peer := { p with gateSeq := some seq }
    let missed : Nat :=
      match p.gateSeq with
      | some k => (seq - k).toNat - 1
      | none => 0
    let gapped : State :=
      if missed = 0 then { b with peers := b.peers.set i q }
      else
        State.report { b with peers := b.peers.set i { q with gapCount := min 255 (q.gapCount + missed) } } .seqGap
          (some .gate) (some i)
    let n : Int := (total - p.wheelTotal).toInt
    let w0 := n * s.settings.wheelScale
    let w := w0 + Int.tdiv (w0 * calLookup s.fusion.working s.profile.diameterClass) 10000
    let e : Int := (s.settings.gateOffset : Int) * 1000 - (s.fusion.p - s.fusion.credit + w)
    let sum := s.fusion.p + e
    let taken : Prop :=
      s.phase = .operating ∧ s.fusion.zeroed = true ∧ s.stem.state ≠ .noStem ∧ s.stem.state ≠ .gripped ∧
      s.fusion.gateUsed = false ∧ p.baselinePending = false
    let marked (u : State) : State := { u with fusion.gateUsed := true }
    let moved : State := { gapped with fusion.p := max (-1000000) (min 40000000 sum) }
    (¬ taken → exec c s = .next gapped.refresh) ∧
    (taken → s.settings.gateWindow * 1000 < e.natAbs →
      exec c s = .next (marked (gapped.report .gateImplausible (some .gate) (some i))).refresh) ∧
    (taken → e.natAbs ≤ s.settings.gateWindow * 1000 → -1000000 ≤ sum → sum ≤ 40000000 →
      exec c s = .next (marked moved).refresh) ∧
    (taken → e.natAbs ≤ s.settings.gateWindow * 1000 → (sum < -1000000 ∨ 40000000 < sum) →
      exec c s = .next (marked (moved.report .positionClamped (some .gate) (some i))).refresh)

/-- The closing timer's expiry closes the interval. With arrivals it is ROLLER TIMEOUT: r is chosen and enters the ring; on a live
track P moves by it, clamped with DEGRADE/POSITION CLAMPED, the change goes to the Profile Unit and is added to the credit; the
counts rise, and a non-wheel run of 16 on a live track brings DEGRADE/TRACK DEGRADED once, each capture without a cause. Without
arrivals it is EMPTY: P and ring stay and the empty run rises; at 8 on a zeroed track the track is lost with DEGRADE/TRACK LOST
and a station in AUTO drops to MANUAL. The accumulator ends empty and the timer starts again (R53, R66 to R71, R112). That the
change is handed over before the counts and TRACK DEGRADED is the model's choice (notes/assumptions/23.md). -/
def Obligations.ClosingTimerClosesTheInterval : Prop :=
  ∀ (t due : Nat) (s : State), s.fusion.closing = some due →
    let run := exec (.closingTimerExpiry t) s
    let now := max (max s.now t) due
    let timer := some (now + 3 * s.settings.samplePeriod * 1000)
    let l := s.fusion.leftSum
    let g := s.fusion.rightSum
    let counts := if (0 < l ∧ 0 < g) ∨ (l < 0 ∧ g < 0) then (if l.natAbs ≤ g.natAbs then l else g) else 0
    let r := counts * s.settings.rollerScale
    let sum := s.fusion.p + r
    let p := if s.live then max (-1000000) (min 40000000 sum) else s.fusion.p
    let moved : State := { s with now := now, fusion.p := p }
    let clamped : State :=
      if s.live = true ∧ (sum < -1000000 ∨ 40000000 < sum) then moved.report .positionClamped none none else moved
    let handed := clamped.handOver (p - s.fusion.p)
    let nonWheel := min 255 (s.fusion.nonWheelRun + 1)
    let tell := decide (16 ≤ nonWheel) && s.live && !s.fusion.degradedReported
    let told : State := if tell then handed.report .trackDegraded none none else handed
    let empties := min 255 (s.fusion.emptyRun + 1)
    let lost : Prop := 8 ≤ empties ∧ s.fusion.zeroed = true
    let empty : State :=
      { s with
        now := now
        fusion.verdict := .empty
        fusion.emptyRun := empties
        fusion.leftSum := 0
        fusion.rightSum := 0
        fusion.frames := 0
        fusion.closing := timer }
    (s.fusion.frames ≠ 0 →
      run =
        .next (State.refresh
          { told with
            fusion :=
              { s.fusion with
                p := p
                leftSum := 0
                rightSum := 0
                frames := 0
                credit := s.fusion.credit + (p - s.fusion.p)
                ring := (s.fusion.ring ++ [(⟨none, some r⟩ : RingEntry)]).drop (s.fusion.ring.length + 1 - 4)
                closing := timer
                verdict := .rollerTimeout
                nonWheelRun := nonWheel
                degradedReported := s.fusion.degradedReported || tell
                emptyRun := 0
                logIntervals := min 255 (s.fusion.logIntervals + 1)
                logNonWheel := min 255 (s.fusion.logNonWheel + 1) } })) ∧
    (s.fusion.frames = 0 → ¬ lost → run = .next empty.refresh) ∧
    (s.fusion.frames = 0 → lost → s.feed.mode = .manual →
      run = .next (State.report { empty with fusion.zeroed := false } .trackLost none none).refresh) ∧
    (s.fusion.frames = 0 → lost → s.feed.mode = .auto →
      run =
        .next (State.refresh
          { State.report { empty with fusion.zeroed := false } .trackLost none none with
            feed.mode := .manual
            feed.demand := 0
            feed.expiry := none }))

/-- CAL VALUE sets the value of a staged entry, held to −500 to +500; CAL KEY sets its key from 0 to 15 and enables it;
another key and an entry above 7 are refused with NOTICE/SETTING REFUSED. The working copy does not change (R58, R59). -/
def Obligations.CalWritesTheStagedCopy : Prop :=
  ∀ (t : Nat) (i : Ident) (entry : Byte) (value : Half) (s : State),
    let cv : Instr := .calValue t i entry value
    let ck : Instr := .calKey t i entry value
    (∀ e : Fin 8, s.hears cv → entry.toNat = e.val →
      exec cv s =
        .next (State.refresh
          { s.heard cv with
            fusion.staged := s.fusion.staged.set e
              { s.fusion.staged[e] with value := max (-500) (min 500 value.toInt) } })) ∧
    (∀ e : Fin 8, s.hears ck → entry.toNat = e.val → 0 ≤ value.toInt → value.toInt ≤ 15 →
      exec ck s =
        .next (State.refresh
          { s.heard ck with
            fusion.staged := s.fusion.staged.set e
              { s.fusion.staged[e] with key := value.toInt.toNat, enabled := true } })) ∧
    (s.hears cv → 8 ≤ entry.toNat →
      exec cv s = .next ((s.heard cv).report .settingRefused (some .cal) (some i)).refresh) ∧
    (s.hears ck → (8 ≤ entry.toNat ∨ value.toInt < 0 ∨ 15 < value.toInt) →
      exec ck s = .next ((s.heard ck).report .settingRefused (some .cal) (some i)).refresh)

/-- The lookup of R60 reads the working copy with the diameter class as it stands at each use: it returns the value of the
enabled entry of lowest number whose key is the class, and 0 where no enabled entry has it; the wheel distance of R56 uses
it. -/
def Obligations.CalLookupTakesTheLowestEntry : Prop :=
  ∀ s : State,
    let table := s.fusion.working
    let k := s.profile.diameterClass
    (∀ e : Fin 8, table[e].enabled = true → table[e].key = k →
      (∀ e' : Fin 8, e' < e → ¬ (table[e'].enabled = true ∧ table[e'].key = k)) →
      calLookup table k = table[e].value) ∧
    ((∀ e : Fin 8, ¬ (table[e].enabled = true ∧ table[e].key = k)) → calLookup table k = 0) ∧
    ∀ n : Int,
      s.wheelDistance n =
        n * s.settings.wheelScale + Int.tdiv (n * s.settings.wheelScale * calLookup table k) 10000

/-! ### The Profile Unit -/

/-- A DIAMETER frame in OPERATING replaces its role's source value, held to 900 mm, with the moment of observation; the ageing
of a source leaves the values. Both recompute the fused diameter: the mean of two recent values, the one recent value, or
unchanged; the class follows it, and at or above the top diameter thin travel is 0 (R49, R78, R79, R80, R87). -/
def Obligations.DiametersAreFused : Prop :=
  ∀ (t : Nat) (s : State),
    let age := 3 * s.settings.samplePeriod * 1000
    let recent (now : Nat) (x : Option SourceValue) (mm : Nat) : Prop :=
      ∃ v, x = some v ∧ v.mm = mm ∧ now < v.at_ + age
    let recomputed (u : State) (now : Nat) (knife feed : Option SourceValue) : Prop :=
      u.now = now ∧ u.profile.knife = knife ∧ u.profile.feed = feed ∧
      (∀ a b, recent now knife a → recent now feed b → u.profile.fused = (a + b) / 2) ∧
      (∀ a, recent now knife a → (∀ mm, ¬ recent now feed mm) → u.profile.fused = a) ∧
      (∀ b, (∀ mm, ¬ recent now knife mm) → recent now feed b → u.profile.fused = b) ∧
      ((∀ mm, ¬ recent now knife mm) → (∀ mm, ¬ recent now feed mm) → u.profile.fused = s.profile.fused) ∧
      u.profile.diameterClass = min 15 (u.profile.fused / 50) ∧
      u.profile.thinTravel = (if s.settings.topDiameter ≤ u.profile.fused then 0 else s.profile.thinTravel) ∧
      u.profile.buckets = s.profile.buckets ∧ u.fusion = s.fusion ∧ u.stem = s.stem ∧ u.settings = s.settings ∧
      u.phase = s.phase ∧ u.capture = s.capture ∧ u.safety = s.refresh.safety
    (∀ i mm, s.hearsWorking (.diameter t i mm) → s.peers[i].role = .d226 .knife →
      ∃ u, exec (.diameter t i mm) s = .next u ∧
        recomputed u (max s.now t) (some ⟨min 900 mm.toNat, max s.now t⟩) s.profile.feed) ∧
    (∀ i mm, s.hearsWorking (.diameter t i mm) → s.peers[i].role = .d226 .feed →
      ∃ u, exec (.diameter t i mm) s = .next u ∧
        recomputed u (max s.now t) s.profile.knife (some ⟨min 900 mm.toNat, max s.now t⟩)) ∧
    (∀ src v, s.phase = .operating → s.profile.source src = some v →
      ∃ u, exec (.diameterAged t src) s = .next u ∧
        recomputed u (max (max s.now t) (v.at_ + age)) s.profile.knife s.profile.feed)

/-- A MOTION close, a timeout close, and any hand-over of a change of P to the Profile Unit (R66): a change above 0 gives every
empty bucket at or below the new P the fused diameter, and no filled one changes; a change of 0 or below fills none and counts
no thin travel (R81, R82, R83). In RUNNING on a zeroed track with the fused diameter below the top diameter the change is added
to thin travel, and at the top travel the station enters TOPPED, in MANUAL, with every PENDING and ACTIVE order ABANDONED (R86,
R88, R101, R112). -/
def Obligations.ForwardTravelFillsTheProfile : Prop :=
  let follows (s u : State) (change : Int) : Prop :=
    let thin : Prop :=
      s.stem.state = .running ∧ s.fusion.zeroed = true ∧ s.profile.fused < s.settings.topDiameter
    let sum := s.profile.thinTravel + change.toNat
    (change ≤ 0 → u.profile = s.profile ∧ u.stem = s.stem) ∧
    (0 < change →
      (∀ k : Fin 400, ∀ mm, s.profile.buckets[k] = some mm → u.profile.buckets[k] = some mm) ∧
      (∀ k : Fin 400, s.profile.buckets[k] = none →
        u.profile.buckets[k] = if (k.val : Int) * 100000 ≤ u.fusion.p then some s.profile.fused else none) ∧
      u.profile =
        { s.profile with buckets := u.profile.buckets, thinTravel := if thin then sum else s.profile.thinTravel } ∧
      (¬ (thin ∧ s.settings.topTravel * 1000 ≤ sum) → u.stem = s.stem) ∧
      (thin → s.settings.topTravel * 1000 ≤ sum →
        u.stem = { s.stem with state := .topped, orders := u.stem.orders } ∧ u.feed.mode = .manual ∧
        ∀ i : Fin 12, u.stem.orders[i] =
          match s.stem.orders[i] with
          | some o => some (if o.status = .pending ∨ o.status = .active then { o with status := .abandoned } else o)
          | none => none))
  (∀ (t : Nat) (i : Ident) (seq : Byte) (total : Word) (contact : Byte) (s : State),
    let c : Instr := .motion t i seq total contact
    s.hearsWorking c → contact.toNat ≤ 1 → (s.heard c).peers[i].baselinePending = false →
    ∃ u, exec c s = .next u ∧ follows s u (u.fusion.p - s.fusion.p)) ∧
  (∀ (t due : Nat) (s : State), s.fusion.closing = some due →
    ∃ u, exec (.closingTimerExpiry t) s = .next u ∧ follows s u (u.fusion.p - s.fusion.p)) ∧
  ∀ (s : State) (change : Int),
    let u := s.handOver change
    follows s u change ∧ u.fusion = s.fusion ∧ u.link = s.link ∧ u.peers = s.peers ∧ u.safety = s.safety ∧
    (change ≤ 0 → u = s)

/-! ### Stop and release -/

/-- An assertion of the stop line in OPERATING captures STOP/STOP LINE without a cause; in START and SILENT, and at a return to
INACTIVE, the level alone is updated; a line already ASSERTED does not change (R158). A STOP NOTICE of another D226 captures
STOP/REMOTE STOP with class 0 and its sender, the station's own is ignored (R161). -/
def Obligations.StopsAreCaptured : Prop :=
  ∀ (t : Nat) (s : State),
    (s.safety.stopAsserted = false → s.phase = .operating →
      exec (.stopLineAssertion t) s =
        .next (State.captureStop { s with now := max s.now t, safety.stopAsserted := true } .stopLine none none
          true).refresh) ∧
    (s.safety.stopAsserted = false → s.phase ≠ .operating →
      exec (.stopLineAssertion t) s =
        .next (State.refresh { s with now := max s.now t, safety.stopAsserted := true })) ∧
    (s.safety.stopAsserted = true →
      exec (.stopLineAssertion t) s = .next (State.refresh { s with now := max s.now t })) ∧
    exec (.stopLineInactive t) s =
      .next (State.refresh { s with now := max s.now t, safety.stopAsserted := false }) ∧
    (∀ i kind serial, let c : Instr := .stopNotice t i kind serial
      s.hears c → 19 ≤ kind.toNat → kind.toNat ≤ 23 →
      exec c s =
        .next (if i = s.identity then s.heard c
          else (s.heard c).captureStop .remoteStop (some .stopNotice) (some i) false).refresh)

/-- RELEASE PREPARE in OPERATING: ignored in RUN; in STOPPED it arms the release for 1 000 ms, from the full time again while
armed, or is refused while the line is ASSERTED; in START it is ignored (R162). RELEASE CONFIRM in OPERATING while armed,
within the arming time, returns to RUN and disarms: a stem AT MARK goes to RUNNING, one in CUTTING leaves by its return state
or takes a pending close, a SAW station whose bar is out homes it, and in the other stem states the stem and the record stay
as they are; not armed, or in START, it is ignored (R102, R143, R163). What a release out of CUTTING leaves of the handshake
view is the model's reading and not stated here (notes/assumptions/10.md). -/
def Obligations.ReleaseTakesTwoFrames : Prop :=
  (∀ (t : Nat) (i : Ident) (s : State), let c : Instr := .releasePrepare t i
    (s.hearsWorking c → s.safety.output = .stopped → s.safety.stopAsserted = false →
      exec c s =
        .next (State.refresh { s.heard c with safety.arming := some (max s.now t + 1000 * 1000) })) ∧
    (s.hearsWorking c → s.safety.output = .stopped → s.safety.stopAsserted = true →
      exec c s = .next ((s.heard c).report .commandRefused (some .releasePrepare) (some i)).refresh) ∧
    (s.hearsWorking c → s.safety.output = .run → exec c s = .next (s.heard c).refresh) ∧
    (s.hears c → s.phase = .start → exec c s = .next (s.heard c).refresh)) ∧
  (∀ (t : Nat) (i : Ident) (s : State), let c : Instr := .releaseConfirm t i
    (s.hears c → s.phase = .start → exec c s = .next (s.heard c).refresh) ∧
    (s.hearsWorking c → s.safety.arming = none → exec c s = .next (s.heard c).refresh) ∧
    (∀ due, s.hearsWorking c → s.safety.arming = some due → max s.now t ≤ due →
      ∃ u, exec c s = .next u ∧ u.safety.output = .run ∧ u.safety.arming = none ∧ u.phase = s.phase ∧
        u.settings = s.settings ∧ u.capture = s.capture ∧ u.safety.stopAsserted = s.safety.stopAsserted ∧
        (s.stem.state = .atMark → u.stem.state = .running) ∧
        (s.stem.state = .cutting → s.stem.closePending = true → u.stem.state = .noStem ∧ u.fusion.p = 0 ∧
          ∀ k : Fin 12, u.stem.orders[k] = none) ∧
        (s.stem.state = .cutting → s.stem.closePending = false →
          u.stem.returnState = none ∧
          (s.stem.returnState = some .topped → u.stem.state = .topped) ∧
          (s.stem.returnState = some .gripped → s.fusion.zeroed = true → u.stem.state = .running) ∧
          (s.stem.returnState = some .gripped → s.fusion.zeroed = false → u.stem.state = .gripped) ∧
          ((s.stem.returnState = some .running ∨ s.stem.returnState = some .atMark) →
            u.stem.state = .running)) ∧
        (s.stem.state ≠ .atMark → s.stem.state ≠ .cutting → u.stem = s.stem ∧ u.safety.record = s.safety.record) ∧
        (s.role = .saw → s.saw.lastHome = false → u.saw.state = .ret ∧ u.saw.record = none ∧
          u.saw.returnTimer = some (max s.now t + s.settings.returnTimeout * 1000)) ∧
        (s.role = .saw → s.saw.lastHome = true → s.saw.state = .idle → u.saw.state = .idle) ∧
        (s.stem.state ≠ .cutting → u.feed.mode = s.feed.mode ∧ u.feed.hold = s.feed.hold) ∧
        u.feed.demand = (if s.stem.state = .cutting then u.feed.demand else s.feed.demand)))

/-- CLEAR FAULT, addressed to the station or to all, in START and OPERATING: a held record's severity becomes the previous
severity and the record is emptied; an empty record and another addressee leave everything. The output state stays (R27,
R166). -/
def Obligations.ClearFaultEmptiesTheRecord : Prop :=
  ∀ (t : Nat) (i : Ident) (addressee : Byte) (s : State), let c : Instr := .clearFault t i addressee
    s.hears c →
    ((addressee.toNat = s.identity.val ∨ addressee.toNat = 255) → s.safety.record.severity ≠ .none →
      exec c s =
        .next (State.refresh
          { s.heard c with
            safety.previous := s.safety.record.severity
            safety.record :=
              { severity := .none, kind := none, serial := 0, orderIndex := 0, p := 0, causeClass := none,
                causeSender := none, laterCount := 0 } })) ∧
    (s.safety.record.severity = .none → exec c s = .next (s.heard c).refresh) ∧
    (addressee.toNat ≠ s.identity.val → addressee.toNat ≠ 255 → exec c s = .next (s.heard c).refresh)

/-! ### The handshake -/

/-- HOLD REQUEST sets the view to its kind and index, REQUESTED. A FEED station in FREE and RUN takes the hold record and yields,
or, already stopped, holds at once and places HOLD GRANT; otherwise it ignores the request (R94, R121, R122). CUT START sets
the view's progress to STARTED, creating the view from the frame where there is none; nothing else changes (R94). -/
def Obligations.RequestsAndCutStartsMarkTheView : Prop :=
  (∀ (t : Nat) (i : Ident) (serial : Half) (kind index : Byte) (k : CutKind) (x : OrderIndex) (s : State),
    let c : Instr := .holdRequest t i serial kind index
    s.hearsInStem c serial → CutKind.ofCode kind = some k → OrderIndex.ofCode index = some x →
    let b : State := { s.heard c with stem.view := some ⟨k, x, .requested⟩ }
    let yields : Prop := s.role = .feed ∧ s.feed.hold = .free ∧ s.safety.output = .run
    (yields → s.feed.stoppedCount ≠ 2 →
      exec c s = .next (State.refresh { b with feed.hold := .yielding, feed.holdRecord := some ⟨k, x⟩ })) ∧
    (yields → s.feed.stoppedCount = 2 →
      exec c s =
        .next (State.placeHandshake { b with feed.hold := .held, feed.holdRecord := some ⟨k, x⟩ }
          (.holdGrant s.stem.serial k x)).refresh) ∧
    (¬ yields → exec c s = .next b.refresh)) ∧
  (∀ (t : Nat) (i : Ident) (serial : Half) (kind index attempt : Byte) (k : CutKind) (x : OrderIndex) (s : State),
    let c : Instr := .cutStart t i serial kind index attempt
    s.hearsInStem c serial → CutKind.ofCode kind = some k → OrderIndex.ofCode index = some x →
    (∀ v, s.stem.view = some v →
      exec c s = .next (State.refresh { s.heard c with stem.view := some { v with progress := .started } })) ∧
    (s.stem.view = none →
      exec c s = .next (State.refresh { s.heard c with stem.view := some ⟨k, x, .started⟩ })))

/-- HOLD GRANT takes a station of any role into CUTTING where its kind fits the stem state, with the return state and a REQUESTED
view, and is ignored by the Stem and Order Unit where it does not fit (R95). In a SAW station a grant that matches the record
in REQUESTED takes the sequencer to SPIN, marking a POSITION DISPUTE of an ORDER cut whose two positions differ by more than
the margin, and on to DOWN with CUT START where the chain is at speed as last delivered; a grant in IDLE and RUN is answered
with HOLD RELEASE ABANDONED; any other is ignored by the sequencer (R133, R134, R135). -/
def Obligations.GrantsAreTakenOrAnswered : Prop :=
  ∀ (t : Nat) (i : Ident) (serial : Half) (kind index : Byte) (k : CutKind) (x : OrderIndex) (s : State),
    let c : Instr := .holdGrant t i serial kind index
    s.hearsInStem c serial → CutKind.ofCode kind = some k → OrderIndex.ofCode index = some x →
    let fits : Prop :=
      (s.stem.state = .gripped ∧ k = .fell) ∨
      ((s.stem.state = .running ∨ s.stem.state = .atMark ∨ s.stem.state = .topped) ∧ (k = .trim ∨ k = .order))
    let b : State :=
      if fits then
        State.enterStem
          { s.heard c with stem.returnState := some s.stem.state, stem.view := some ⟨k, x, .requested⟩ } .cutting
      else s.heard c
    let answers (u : State) : Prop := exec c s = .next u.refresh
    (s.role ≠ .saw → answers b) ∧
    (∀ r, s.role = .saw → s.saw.state = .requested → s.saw.record = some r → r.kind = k → r.index = x →
      let dispute : Bool :=
        match r.pFeed with
        | some q => decide (k = .order) && decide ((s.settings.disputeMargin : Int) * 1000 < |s.fusion.p - q|)
        | none => false
      let noted : State := { b with saw.record := some { r with dispute := r.dispute || dispute } }
      let told : State := if dispute then noted.report .positionDispute (some .holdGrant) (some i) else noted
      let atSpeed : Prop := ∃ n, s.saw.lastPeriod = some n ∧ n ≤ s.settings.chainThreshold
      (¬ atSpeed → answers (told.sawEnter .spin)) ∧
      (atSpeed →
        answers ((told.placeHandshake (.cutStart s.stem.serial k x r.attempt)).sawEnter .down))) ∧
    (s.role = .saw → s.saw.state = .idle → s.safety.output = .run →
      answers (b.placeHandshake (.holdRelease serial k x .abandoned))) ∧
    (s.role = .saw → s.saw.state = .idle → s.safety.output = .stopped → answers b) ∧
    (s.role = .saw →
      (s.saw.state = .spin ∨ s.saw.state = .down ∨ s.saw.state = .ret ∨
        (s.saw.state = .requested ∧ ∀ r, s.saw.record = some r → ¬ (r.kind = k ∧ r.index = x))) →
      answers b)

/-- HOLD RELEASE ends the feed hold, with MANUAL after FAILED or ABANDONED; FAILED interrupts the unfinished order of an ORDER
cut. In CUTTING the station leaves by its return state, or takes a pending close; outside it AT MARK goes to RUNNING, GRIPPED
goes to RUNNING after a FELL that is DONE, and other states stay (R93, R98, R99, R123). -/
def Obligations.HoldReleaseEndsTheHandshake : Prop :=
  ∀ (t : Nat) (i : Ident) (serial : Half) (kind index outcome : Byte) (k : CutKind) (x : OrderIndex)
    (o : HoldOutcome) (s : State),
    let c : Instr := .holdRelease t i serial kind index outcome
    s.hearsInStem c serial → CutKind.ofCode kind = some k → OrderIndex.ofCode index = some x →
    HoldOutcome.ofCode outcome = some o →
    ∃ u, exec c s = .next u ∧
      let done : Prop := ∃ v, s.stem.view = some v ∧ v.progress = .done
      let cutting : Prop := s.stem.state = .cutting
      let closes : Prop := cutting ∧ s.stem.closePending = true
      u.stem.view = none ∧
      (s.feed.hold ≠ .free → u.feed.hold = .free ∧ u.feed.holdRecord = none ∧
        (o ≠ .done → u.feed.mode = .manual)) ∧
      (s.feed.hold = .free → u.feed.hold = .free) ∧
      (closes → u.stem.state = .noStem ∧ u.fusion.p = 0 ∧ ∀ j : Fin 12, u.stem.orders[j] = none) ∧
      (cutting → ¬ closes →
        u.stem.returnState = none ∧
        (s.stem.returnState = some .topped → u.stem.state = .topped) ∧
        (s.stem.returnState = some .gripped → (done ∨ o = .done) → u.stem.state = .running) ∧
        (s.stem.returnState = some .gripped → ¬ done → o ≠ .done → u.stem.state = .gripped) ∧
        ((s.stem.returnState = some .running ∨ s.stem.returnState = some .atMark) → u.stem.state = .running)) ∧
      (s.stem.state = .atMark → u.stem.state = .running) ∧
      (s.stem.state = .gripped →
        u.stem.state = if k = .fell ∧ o = .done then .running else .gripped) ∧
      ((s.stem.state = .running ∨ s.stem.state = .topped) → u.stem.state = s.stem.state) ∧
      (¬ closes → ∀ (j : Fin 12) (q : Order), x = some j → k = .order → o = .failed → s.stem.orders[j] = some q →
        (q.status = .pending ∨ q.status = .active) → u.stem.orders[j] = some { q with status := .interrupted }) ∧
      (¬ closes → u.fusion = s.fusion ∧ u.profile = s.profile) ∧
      u.settings = s.settings ∧ u.capture = s.capture ∧ u.stem.serial = s.stem.serial ∧
      u.safety.output = s.safety.output ∧ u.phase = s.phase ∧ u.stem.logNumber = s.stem.logNumber ∧
      (∀ j : Fin 8, j ≠ i → j ≠ s.identity → u.peers[j] = s.peers[j])

/-- CUT DONE raises the log number, sets an unfinished order of an ORDER cut CUT, marks the view DONE and is the zero event: P
0, zeroed, gate-used and the per-log counts cleared, the staged calibration in force and the profile empty. The stem state
stays. A SAW station queues the log record of its own cut, taken from the track and the profile before the zero event, and
clears the cut marks; another queues none (R61, R74, R84, R97, R107, R108). Its butt and mid diameters are read from
the bucket named, or from the nearest filled one below it, or are 0 (R85). -/
def Obligations.CutDoneIsTheZeroEvent : Prop :=
  (∀ (t : Nat) (i : Ident) (serial : Half) (kind index : Byte) (pAtCut : Word) (k : CutKind) (x : OrderIndex)
    (s : State),
    let c : Instr := .cutDone t i serial kind index pAtCut
    s.hearsInStem c serial → CutKind.ofCode kind = some k → OrderIndex.ofCode index = some x →
    ∃ u, exec c s = .next u ∧
      let n := min 255 (s.stem.logNumber + 1)
      let len := if s.fusion.p ≤ 0 then 0 else ((s.fusion.p + 500) / 1000).toNat
      let own : Prop := s.role = .saw ∧ i = s.identity
      u.stem.logNumber = n ∧ u.stem.state = s.stem.state ∧ u.stem.serial = s.stem.serial ∧
      u.fusion =
        { s.fusion with
          p := 0
          zeroed := true
          gateUsed := false
          logIntervals := 0
          logNonWheel := 0
          working := s.fusion.staged } ∧
      (∀ b : Fin 400, u.profile.buckets[b] = none) ∧ u.profile.fused = s.profile.fused ∧
      u.profile.thinTravel = s.profile.thinTravel ∧
      (∀ (j : Fin 12) (q : Order), x = some j → k = .order → s.stem.orders[j] = some q →
        (q.status = .pending ∨ q.status = .active) → u.stem.orders[j] = some { q with status := .cut }) ∧
      (∃ v, u.stem.view = some v ∧ v.progress = .done) ∧
      (¬ own → u.link.logFifo = s.link.logFifo) ∧
      (own → s.link.logFifo.length < 4 →
        u.link.logFifo =
          s.link.logFifo ++
            [⟨.logRecord
              { serial := s.stem.serial
                logNumber := n
                kind := k
                index := x
                lengthMm := len
                offsize := s.stem.offsizeMark
                dispute := s.stem.disputeMark
                gateUsed := s.fusion.gateUsed
                nonWheel := s.fusion.logNonWheel
                butt := bucketOrBelow s.profile.buckets 0
                mid := bucketOrBelow s.profile.buckets (len / 200)
                top := s.profile.fused }, 0⟩]) ∧
      (own → u.stem.offsizeMark = false ∧ u.stem.disputeMark = false) ∧
      u.settings = s.settings ∧ u.capture = s.capture ∧ u.feed.mode = s.feed.mode ∧ u.feed.hold = s.feed.hold ∧
      (s.feed.mode = .auto → u.feed.approachOrder = none) ∧ u.saw.state = s.saw.state ∧
      u.safety.output = s.safety.output ∧ u.phase = s.phase ∧
      (∀ j : Fin 8, j ≠ i → j ≠ s.identity → u.peers[j] = s.peers[j])) ∧
  (∀ (buckets : Vector (Option Nat) 400) (k : Nat),
    (∀ (j : Fin 400) (mm : Nat), j.val ≤ k → buckets[j] = some mm →
      (∀ l : Fin 400, j < l → l.val ≤ k → buckets[l] = none) → bucketOrBelow buckets k = mm) ∧
    ((∀ l : Fin 400, l.val ≤ k → buckets[l] = none) → bucketOrBelow buckets k = 0))

/-- HALTED for the ACTIVE order takes RUNNING to AT MARK and has no other effect on a station of another role than SAW; an IDLE
SAW station in RUN requests the hold with the frame's P and offsize, or rejects the order as TOO THIN; one that is not IDLE,
or not in RUN, does neither (R96, R130). A FELL in GRIPPED, or a TRIM in RUNNING, AT MARK or TOPPED, commanded to a SAW
station in IDLE and RUN, starts a handshake; any other command to it is refused with NOTICE/COMMAND REFUSED; in another role
it is ignored (R127, R131). -/
def Obligations.HandshakesStartOnAHaltOrACommand : Prop :=
  (∀ (t : Nat) (i : Ident) (serial : Half) (index : Byte) (p : Word) (offsize : Byte) (x : OrderIndex) (f : Bool)
    (s : State),
    let c : Instr := .halted t i serial index p offsize
    s.hearsInStem c serial → OrderIndex.ofCode index = some x → flagOfCode offsize = some f →
    let active : Prop := ∃ j o, x = some j ∧ s.activeIndex = some j ∧ s.stem.orders[j] = some o
    let atMark (u : State) : State := if s.stem.state = .running ∧ x.isSome ∧ x = s.activeIndex then u.enterStem .atMark else u
    ((s.role ≠ .saw ∨ s.saw.state ≠ .idle ∨ s.safety.output = .stopped ∨ ¬ active) →
      exec c s = .next (atMark (s.heard c)).refresh) ∧
    (∀ j o, s.role = .saw → s.saw.state = .idle → s.safety.output = .run → x = some j → s.activeIndex = some j →
      s.stem.orders[j] = some o →
      (s.profile.fused < o.minTop →
        exec c s =
          .next (atMark ((s.heard c).placeHandshake (.orderReject s.stem.serial x .tooThin))).refresh) ∧
      (o.minTop ≤ s.profile.fused →
        exec c s =
          .next (atMark ((State.placeHandshake
            { s.heard c with saw.record := some ⟨.order, x, 1, some p.toInt, f, false, false⟩ }
            (.holdRequest s.stem.serial .order x)).sawEnter .requested)).refresh))) ∧
  (∀ (t : Nat) (i : Ident) (serial : Half) (kind : Byte) (k : CutKind) (s : State),
    let c : Instr := .cutCommand t i serial kind
    s.hearsInStem c serial → CutKind.ofCode kind = some k →
    let fits : Prop :=
      s.saw.state = .idle ∧ s.safety.output = .run ∧
      ((k = .fell ∧ s.stem.state = .gripped) ∨
        (k = .trim ∧ (s.stem.state = .running ∨ s.stem.state = .atMark ∨ s.stem.state = .topped)))
    (s.role = .saw → fits →
      exec c s =
        .next ((State.placeHandshake
          { s.heard c with saw.record := some ⟨k, none, 1, none, false, false, false⟩ }
          (.holdRequest s.stem.serial k none)).sawEnter .requested).refresh) ∧
    (s.role = .saw → ¬ fits →
      exec c s = .next ((s.heard c).report .commandRefused (some .cutCommand) (some i)).refresh) ∧
    (s.role ≠ .saw → exec c s = .next (s.heard c).refresh))

/-- ORDER REJECT sets an unfinished order REJECTED, takes AT MARK to RUNNING and then activates the PENDING order of lowest
index of a station in RUNNING on a zeroed track without another ACTIVE order (R100, R105). -/
def Obligations.OrderRejectActivatesTheNext : Prop :=
  ∀ (t : Nat) (i : Ident) (serial : Half) (index reason : Byte) (j : Fin 12) (s : State),
    let c : Instr := .orderReject t i serial index reason
    s.hearsInStem c serial → OrderIndex.ofCode index = some (some j) → reason.toNat ≤ 1 →
    ∃ u, exec c s = .next u ∧
      u.stem.state = (if s.stem.state = .atMark then .running else s.stem.state) ∧
      (∀ q : Order, s.stem.orders[j] = some q → (q.status = .pending ∨ q.status = .active) →
        u.stem.orders[j] = some { q with status := .rejected }) ∧
      (s.stem.orders[j] = none → u.stem.orders[j] = none) ∧
      (∀ q : Order, s.stem.orders[j] = some q → q.status ≠ .pending → q.status ≠ .active →
        u.stem.orders[j] = some q) ∧
      (∀ (m : Fin 12) (q : Order), (s.stem.state = .running ∨ s.stem.state = .atMark) → s.fusion.zeroed = true →
        m ≠ j → s.stem.orders[m] = some q → q.status = .pending →
        (∀ l : Fin 12, l ≠ j → slotIs .active s.stem.orders[l] = false) →
        (∀ l : Fin 12, l < m → l ≠ j → slotIs .pending s.stem.orders[l] = false) →
        u.stem.orders[m] = some { q with status := .active }) ∧
      u.stem.serial = s.stem.serial ∧ u.stem.view = s.stem.view ∧ u.stem.returnState = s.stem.returnState ∧
      u.stem.logNumber = s.stem.logNumber ∧ u.fusion = s.fusion ∧ u.profile = s.profile ∧
      u.settings = s.settings ∧ u.capture = s.capture ∧ u.feed.hold = s.feed.hold ∧ u.saw.state = s.saw.state ∧
      u.safety.output = s.safety.output ∧ u.phase = s.phase

/-- Entering a handshake state starts its own timer for its setting and stops the other three; nothing else changes (R128,
R129). The grant timer ends the handshake with HOLD RELEASE ABANDONED and IDLE (R134); the chain and cut timers fail the
attempt into RETURN with the record kept and no frame (R136, R138); the return timer captures STOP/BAR NOT HOME (R141). That
HOLD RELEASE carries the station's stem serial, the record holding none, is the model's reading (notes/assumptions/17.md). -/
def Obligations.SawTimersEndTheirState : Prop :=
  (∀ (s : State) (st : SawState),
    s.sawEnter st =
      { s with
        saw.state := st
        saw.grantTimer := if st = .requested then some (s.now + s.settings.grantTimeout * 1000) else none
        saw.chainTimer := if st = .spin then some (s.now + s.settings.chainTimeout * 1000) else none
        saw.cutTimer := if st = .down then some (s.now + s.settings.cutTimeout * 1000) else none
        saw.returnTimer := if st = .ret then some (s.now + s.settings.returnTimeout * 1000) else none }) ∧
  (∀ (t due : Nat) (s : State),
    let b : State := { s with now := max (max s.now t) due }
    (∀ r, s.saw.grantTimer = some due → s.saw.record = some r →
      exec (.grantTimerExpiry t) s =
        .next ((State.placeHandshake { b with saw.record := none }
          (.holdRelease s.stem.serial r.kind r.index .abandoned)).sawEnter .idle).refresh) ∧
    (s.saw.chainTimer = some due → exec (.chainTimerExpiry t) s = .next (b.sawEnter .ret).refresh) ∧
    (s.saw.cutTimer = some due → exec (.cutTimerExpiry t) s = .next (b.sawEnter .ret).refresh) ∧
    (s.saw.returnTimer = some due →
      exec (.returnTimerExpiry t) s = .next (b.captureStop .barNotHome none none true).refresh))

/-! ### Feed, stem and orders -/

/-- FEED DEMAND in a FEED station in RUN sets the manual demand, held to ±1000 ‰, and starts the expiry timer again; in STOPPED,
in START and in the other roles it is ignored (R109, R113). FEED MODE in a FEED station: MANUAL ends AUTO with the demand at 0
and the timer stopped; AUTO is entered from MANUAL on a zeroed track in RUNNING or AT MARK and RUN, with a fresh approach, and
refused otherwise; the mode that stands is kept (R111, R112). That entering AUTO leaves the approach duty as it stands until
the next sample instant is the model's choice (notes/assumptions/24.md). -/
def Obligations.FeedCommandsSetDemandAndMode : Prop :=
  (∀ (t : Nat) (i : Ident) (duty : Half) (s : State), let c : Instr := .feedDemand t i duty
    (s.hearsWorking c → s.role = .feed → s.safety.output = .run →
      exec c s =
        .next (State.refresh
          { s.heard c with
            feed.demand := max (-1000) (min 1000 duty.toInt)
            feed.expiry := some (max s.now t + s.settings.manualExpiry * 1000) })) ∧
    (s.hears c → (s.role ≠ .feed ∨ s.safety.output = .stopped ∨ s.phase = .start) →
      exec c s = .next (s.heard c).refresh)) ∧
  (∀ (t : Nat) (i : Ident) (mode : Byte) (s : State), let c : Instr := .feedMode t i mode
    s.hearsWorking c → s.role = .feed →
    let ready : Prop :=
      s.fusion.zeroed = true ∧ (s.stem.state = .running ∨ s.stem.state = .atMark) ∧ s.safety.output = .run
    (mode.toNat = 0 → s.feed.mode = .auto →
      exec c s =
        .next (State.refresh
          { s.heard c with feed.mode := .manual, feed.demand := 0, feed.expiry := none })) ∧
    (mode.toNat = 0 → s.feed.mode = .manual → exec c s = .next (s.heard c).refresh) ∧
    (mode.toNat = 1 → s.feed.mode = .auto → exec c s = .next (s.heard c).refresh) ∧
    (mode.toNat = 1 → s.feed.mode = .manual → ready →
      exec c s =
        .next (State.refresh
          { s.heard c with
            feed.mode := .auto
            feed.demand := 0
            feed.expiry := none
            feed.attempts := 0
            feed.stage := .approach
            feed.previousD := none
            feed.approachOrder := none })) ∧
    (mode.toNat = 1 → s.feed.mode = .manual → ¬ ready →
      exec c s = .next ((s.heard c).report .commandRefused (some .feedMode) (some i)).refresh))

/-- STEM OPEN in NO STEM opens the stem under its serial in GRIPPED with an empty queue, log number 0, no marks, a fresh track
and profile; in any other stem state it is refused with NOTICE/STEM BUSY (R75, R84, R87, R91). STEM CLOSE of the open stem:
outside CUTTING the station enters NO STEM with an empty queue, no return state, no view and no marks, its serial and log
number kept; in CUTTING it sets close-pending and nothing else (R92, R93). -/
def Obligations.StemsOpenFreshAndCloseEmpty : Prop :=
  (∀ (t : Nat) (i : Ident) (serial : Half) (s : State), let c : Instr := .stemOpen t i serial
    s.hearsWorking c →
    (s.stem.state ≠ .noStem →
      exec c s = .next ((s.heard c).report .stemBusy (some .stemOpen) (some i)).refresh) ∧
    (s.stem.state = .noStem →
      ∃ u, exec c s = .next u ∧
        u.stem =
          { state := .gripped, serial := serial, returnState := none, closePending := false, view := none
            orders := Vector.replicate 12 none, logNumber := 0, offsizeMark := false, disputeMark := false } ∧
        u.fusion =
          { s.fusion with
            p := 0
            zeroed := false
            gateUsed := false
            logIntervals := 0
            logNonWheel := 0
            nonWheelRun := 0
            degradedReported := false
            emptyRun := 0
            ring := []
            leftSum := 0
            rightSum := 0
            frames := 0
            credit := 0
            verdict := .none } ∧
        (∀ k : Fin 400, u.profile.buckets[k] = none) ∧ u.profile.thinTravel = 0 ∧
        u.profile.fused = s.profile.fused ∧ u.feed.mode = s.feed.mode ∧ u.feed.hold = s.feed.hold ∧
        u.saw.state = s.saw.state ∧ u.valves.wheelLift = none ∧ u.valves.knifeOpen = none ∧
        u.capture = s.capture ∧ u.settings = s.settings ∧ u.phase = s.phase ∧ u.safety.record = s.safety.record ∧
        u.safety.output = s.safety.output ∧ u.link.handshake = s.link.handshake)) ∧
  (∀ (t : Nat) (i : Ident) (serial : Half) (s : State), let c : Instr := .stemClose t i serial
    s.hearsInStem c serial →
    (s.stem.state = .cutting →
      exec c s = .next (State.refresh { s.heard c with stem.closePending := true })) ∧
    (s.stem.state ≠ .cutting →
      exec c s =
        .next (State.enterStem
          { s.heard c with
            stem.orders := Vector.replicate 12 none
            stem.returnState := none
            stem.closePending := false
            stem.view := none
            stem.offsizeMark := false
            stem.disputeMark := false } .noStem).refresh))

/-- An ORDER with an index from 0 to 11 and a target from 300 to 30 000 mm is stored as PENDING in a slot that is empty or
PENDING, its other fields held to their limits, and brings activation; otherwise it is refused with NOTICE/ORDER REFUSED and
the queue does not change (R104). Activation makes the PENDING order of lowest index ACTIVE, in RUNNING on a zeroed track
without an ACTIVE order, and does nothing otherwise. In a SAW station a P beyond the target by more than the reverse limit
places ORDER REJECT with reason PASSED, the order staying ACTIVE (R105, R106). -/
def Obligations.OrdersAreStoredAndActivated : Prop :=
  (∀ (t : Nat) (i : Ident) (serial : Half) (index : Byte) (target : Half) (tm tp : Byte) (minTop : Half)
    (grade : Byte) (s : State),
    let c : Instr := .order t i serial index target tm tp minTop grade
    s.hearsInStem c serial →
    let o : Order :=
      { target := target.toNat
        tolMinus := min 100 tm.toNat
        tolPlus := min 100 tp.toNat
        minTop := min 600 minTop.toNat
        grade := min 15 grade.toNat
        status := .pending }
    let takes (j : Fin 12) : Prop :=
      index.toNat = j.val ∧ 300 ≤ target.toNat ∧ target.toNat ≤ 30000 ∧
      ∀ q, s.stem.orders[j] = some q → q.status = .pending
    (∀ j, takes j →
      exec c s =
        .next (State.activate { s.heard c with stem.orders := s.stem.orders.set j (some o) }).refresh) ∧
    ((∀ j, ¬ takes j) →
      exec c s = .next ((s.heard c).report .orderRefused (some .order) (some i)).refresh)) ∧
  (∀ s : State,
    ((s.stem.state ≠ .running ∨ s.fusion.zeroed = false ∨ (∃ j : Fin 12, slotIs .active s.stem.orders[j] = true) ∨
        ∀ j : Fin 12, slotIs .pending s.stem.orders[j] = false) → s.activate = s) ∧
    ∀ (j : Fin 12) (o : Order), s.stem.state = .running → s.fusion.zeroed = true →
      (∀ l : Fin 12, slotIs .active s.stem.orders[l] = false) →
      (∀ l : Fin 12, l < j → slotIs .pending s.stem.orders[l] = false) → s.stem.orders[j] = some o →
      o.status = .pending →
      let u : State := { s with stem.orders := s.stem.orders.set j (some { o with status := .active }) }
      let passed : Prop := (o.target : Int) * 1000 + (s.settings.reverseLimit : Int) * 1000 < s.fusion.p
      (s.role = .saw → passed →
        s.activate = u.placeHandshake (.orderReject s.stem.serial (some j) .passed)) ∧
      ((s.role ≠ .saw ∨ ¬ passed) → s.activate = u))

/-! ### Queries and settings -/

/-- A QUERY of the station with an empty answer slot is answered in START and OPERATING with the content of its item, an
index out of range and an occupied slot apart, where it is ignored; reading changes nothing else (R168, R169). The contents
stand here byte by byte as 2.6 lays them out; a sequence number that is not known answers as 0 (R34). -/
def Obligations.QueriesAnswerFromTheState : Prop :=
  ∀ (t : Nat) (i : Ident) (a x : Byte) (s : State), (a.toNat = s.identity.val ∨ a.toNat = 255) →
    let answered (c : Instr) (item : QueryItem) (content : List Byte) : Prop :=
      s.hears c →
      (s.link.answerSlot = none →
        exec c s =
          .next (State.refresh { s.heard c with link.answerSlot := some ⟨.answer item x content, 0⟩ })) ∧
      (s.link.answerSlot ≠ none → exec c s = .next (s.heard c).refresh)
    let ignored (c : Instr) : Prop := s.hears c → exec c s = .next (s.heard c).refresh
    let number (n : Option Byte) : Byte :=
      match n with
      | some b => b
      | none => 0
    let flag (b : Bool) : Byte := if b then 1 else 0
    let cal (e : CalEntry) : List Byte :=
      [byteOf e.key, (BitVec.ofInt 16 e.value).setWidth 8, ((BitVec.ofInt 16 e.value) >>> 8).setWidth 8, flag e.enabled]
    answered (.queryStation t i a x) .station
      ([byteOf s.phase.code, byteOf s.role.code, byteOf s.identity.val, byteOf s.stem.state.code,
        byteOf s.safety.output.code, byteOf s.feed.mode.code, byteOf s.feed.hold.code, byteOf s.saw.state.code,
        flag s.fusion.zeroed] ++ le32 (BitVec.ofInt 32 s.fusion.p)) ∧
    answered (.queryTrack t i a x) .track
      [byteOf s.fusion.verdict.code, byteOf s.fusion.nonWheelRun, byteOf s.fusion.emptyRun,
        byteOf s.fusion.logIntervals, byteOf s.fusion.logNonWheel, flag s.fusion.gateUsed] ∧
    answered (.queryFault t i a x) .fault
      (flag (decide (s.safety.record.severity ≠ .none)) ::
        (Frame.faultNotice s.safety.record s.safety.previous).payload) ∧
    (∀ n : Fin 8, x.toNat = n.val →
      let p := (s.heard (.queryPeer t i a x)).peers[n]
      answered (.queryPeer t i a x) .peer
        [byteOf p.presence.code, byteOf p.role.code, byteOf p.phase.code, byteOf p.stem.code, number p.motionSeq,
          number p.rollerSeq, number p.gateSeq, flag p.baselinePending, byteOf p.gapCount, flag p.conflict]) ∧
    (8 ≤ x.toNat → ignored (.queryPeer t i a x)) ∧
    (∀ n : Fin 12, x.toNat = n.val →
      answered (.queryOrder t i a x) .order
        (match s.stem.orders[n] with
          | some o =>
            [byteOf o.status.code] ++ le16 (BitVec.ofNat 16 o.target) ++ [byteOf o.tolMinus, byteOf o.tolPlus] ++
            le16 (BitVec.ofNat 16 o.minTop) ++ [byteOf o.grade]
          | none => [0, 0, 0, 0, 0, 0, 0, 0])) ∧
    (12 ≤ x.toNat → ignored (.queryOrder t i a x)) ∧
    (∀ n : Fin 8, x.toNat = n.val →
      answered (.queryCal t i a x) .cal (cal s.fusion.staged[n] ++ cal s.fusion.working[n])) ∧
    (8 ≤ x.toNat → ignored (.queryCal t i a x)) ∧
    answered (.queryLink t i a x) .link [byteOf s.link.checkFailures, byteOf s.link.txFailures]

/-- A SETUP addressed to the station sets, in START, the setting its item names to the value held to the range of that item;
an item that names none, and any SETUP in OPERATING, is refused with NOTICE/SETTING REFUSED; one addressed to another is
ignored (R27, R173, R175). SETUP END in START takes the station into OPERATING: the settings stay, an ANNOUNCE is called for,
the sample timer and the closing timer start, a SAW station awaits its first flag delivery, and an ASSERTED stop line is
captured; in OPERATING it is refused with NOTICE/SETTING REFUSED (R33, R51, R143, R158, R174, R175). -/
def Obligations.SettingsAreStoredUntilSetupEnds : Prop :=
  (∀ (t : Nat) (i : Ident) (addressee item : Byte) (value : Word) (s : State),
    let c : Instr := .setup t i addressee item value
    s.hears c →
    let ours : Prop := addressee.toNat = s.identity.val ∨ addressee.toNat = 255
    let refused : Prop := exec c s = .next ((s.heard c).report .settingRefused (some .setup) (some i)).refresh
    (ours → s.phase = .start → 1 ≤ item.toNat → item.toNat ≤ 43 →
      ∃ lo hi u, Settings.range item.toNat = some (lo, hi) ∧ exec c s = .next u ∧
        u.settings.get item.toNat = some (max lo (min hi value.toNat)) ∧
        (∀ k, k ≠ item.toNat → u.settings.get k = s.settings.get k) ∧
        u = State.refresh { s.heard c with settings := u.settings }) ∧
    (ours → s.phase = .start → (item.toNat = 0 ∨ 44 ≤ item.toNat) → refused) ∧
    (ours → s.phase = .operating → refused) ∧
    (¬ ours → exec c s = .next (s.heard c).refresh)) ∧
  (∀ (t : Nat) (i : Ident) (s : State), let c : Instr := .setupEnd t i
    s.hears c →
    (s.phase = .operating →
      exec c s = .next ((s.heard c).report .settingRefused (some .setupEnd) (some i)).refresh) ∧
    (s.phase = .start →
      ∃ u, exec c s = .next u ∧ u.phase = .operating ∧ u.settings = s.settings ∧
        u.capture = { s.capture with sampleTimer := some (max s.now t + s.settings.samplePeriod * 1000) } ∧
        u.fusion = { s.fusion with closing := some (max s.now t + 3 * s.settings.samplePeriod * 1000) } ∧
        u.saw.firstDelivery = decide (s.role = .saw) ∧ u.link.keepAlive = s.link.keepAlive ∧
        (s.link.announceSlot = none →
          u.link.announceSlot = some ⟨.announce s.role .operating s.stem.state, 0⟩) ∧
        (∀ r m n, s.link.announceSlot = some ⟨.announce r .start m, n⟩ →
          u.link.announceSlot = s.link.announceSlot ∧ u.link.repeatMark = true) ∧
        (s.safety.stopAsserted = true → u.safety.output = .stopped ∧
          (s.safety.record.severity ≠ .stop → u.safety.record.kind = some .stopLine)) ∧
        (s.safety.stopAsserted = false → u.safety.output = s.safety.output ∧ u.safety.record = s.safety.record) ∧
        u.stem.state = s.stem.state ∧ u.profile = s.profile ∧ u.role = s.role ∧ u.identity = s.identity))

/-! ### The Valve Drivers and the timers -/

/-- At a period boundary the next period starts (R147). A channel that is not forced off compares its current reading (R12, R150)
and loads its buffer: a latched one drives nothing and clears its latch at buffer 0; one whose count reaches N is latched with
its side off, with DEGRADE/VALVE OVERLOAD without a cause (R151); any other drives the side of its sign, where that side runs on
already, or the other does not run or is stopped at this boundary with a dead interval of 0, and the other side, where it
stopped last, has been off for the dead interval; a side that stops is recorded (R148, R149). While forced off, every channel
drives nothing and its latch clears (R152). Nothing else changes. -/
def Obligations.BoundariesLoadTheBuffers : Prop :=
  ∀ (t : Nat) (cs0 cs1 cs2 cs3 : Raw) (s : State), ∃ u, exec (.pwmPeriodBoundary t cs0 cs1 cs2 cs3) s = .next u ∧
    let now := max (max s.now t) s.valves.pwmTimer
    let forced := decide (s.phase ≠ .operating ∨ s.safety.output = .stopped)
    let mA (i : Fin 4) : Nat := (#v[cs0, cs1, cs2, cs3][i] : Raw).toNat * 4000 / 4096
    let count (i : Fin 4) : Nat :=
      if s.valves.channels[i].side ≠ none ∧ s.settings.overloadLimit < mA i then s.valves.channels[i].overload + 1 else 0
    let trips (i : Fin 4) : Bool :=
      !forced && !s.valves.channels[i].latched && decide (s.settings.overloadCount ≤ count i)
    let told (v : State) (i : Fin 4) : State := if trips i then v.report .valveOverload none none else v
    let begun : State :=
      { s with
        now := now
        valves.periodStart := now
        valves.periodMs := s.settings.pwmPeriod
        valves.pwmTimer := now + s.settings.pwmPeriod * 1000 }
    u = State.refresh { told (told (told (told begun 0) 1) 2) 3 with valves.channels := u.valves.channels } ∧
    ∀ i : Fin 4,
      let c := s.valves.channels[i]
      let d := u.valves.channels[i]
      let interval := s.settings.deadInterval * 1000
      let clear (x : Side) : Prop :=
        c.side = some x ∨ (c.side = some x.other ∧ interval = 0) ∨
        (c.side = none ∧ ∀ at_, c.lastStopped = some (x.other, at_) → at_ + interval ≤ now)
      (forced = true →
        d.side = none ∧ d.latched = false ∧ d.active = 0 ∧ d.buffer = 0 ∧ d.overload = 0 ∧
        (c.side = none → d.lastStopped = c.lastStopped)) ∧
      (forced = false → d.active = c.buffer ∧
        (∀ x, c.side = some x → d.side ≠ some x → d.lastStopped = some (x, now)) ∧
        ((c.side = none ∨ d.side = c.side) → d.lastStopped = c.lastStopped)) ∧
      (forced = false → c.latched = true →
        d.side = c.side ∧ d.latched = decide (c.buffer ≠ 0) ∧ d.overload = c.overload) ∧
      (trips i = true → d.latched = true ∧ d.side = none ∧ d.overload = 0) ∧
      (forced = false → c.latched = false → trips i = false →
        d.latched = false ∧ d.overload = count i ∧
        (c.buffer = 0 → d.side = none) ∧
        (0 < c.buffer → clear .a → d.side = some .a) ∧ (0 < c.buffer → ¬ clear .a → d.side = none) ∧
        (c.buffer < 0 → clear .b → d.side = some .b) ∧ (c.buffer < 0 → ¬ clear .b → d.side = none))

/-- The arming timer, the manual expiry timer, the knife open timer and the lift timer run out: the timer stops and nothing
else changes, but for the manual demand, which becomes 0 (R114, R154, R156, R162). An expiry of a timer that does not run, and
one of a value that is not stored, changes nothing (the model's reading, notes/assumptions/2.md). -/
def Obligations.TimersRunOutOnce : Prop :=
  ∀ (t : Nat) (s : State),
    let idle (c : Instr) : Prop := exec c s = .next (State.refresh { s with now := max s.now t })
    (∀ due, s.safety.arming = some due →
      exec (.releaseArmingExpiry t) s =
        .next (State.refresh { s with now := max (max s.now t) due, safety.arming := none })) ∧
    (∀ due, s.feed.expiry = some due →
      exec (.manualExpiry t) s =
        .next (State.refresh { s with now := max (max s.now t) due, feed.demand := 0, feed.expiry := none })) ∧
    (∀ due, s.valves.knifeOpen = some due →
      exec (.knifeOpenTimerExpiry t) s =
        .next (State.refresh { s with now := max (max s.now t) due, valves.knifeOpen := none })) ∧
    (∀ due, s.valves.wheelLift = some due →
      exec (.wheelLiftTimerExpiry t) s =
        .next (State.refresh { s with now := max (max s.now t) due, valves.wheelLift := none })) ∧
    (s.safety.arming = none → idle (.releaseArmingExpiry t)) ∧ (s.feed.expiry = none → idle (.manualExpiry t)) ∧
    (s.valves.knifeOpen = none → idle (.knifeOpenTimerExpiry t)) ∧
    (s.valves.wheelLift = none → idle (.wheelLiftTimerExpiry t)) ∧
    (s.link.keepAlive = none → idle (.keepAliveExpiry t)) ∧ (s.fusion.closing = none → idle (.closingTimerExpiry t)) ∧
    (s.saw.grantTimer = none → idle (.grantTimerExpiry t)) ∧ (s.saw.chainTimer = none → idle (.chainTimerExpiry t)) ∧
    (s.saw.cutTimer = none → idle (.cutTimerExpiry t)) ∧ (s.saw.returnTimer = none → idle (.returnTimerExpiry t)) ∧
    (s.capture.cap2.lastEdge = none → idle (.chainPeriodExpiry t)) ∧
    (∀ src, s.profile.source src = none → idle (.diameterAged t src)) ∧
    (∀ i : Ident, s.peers[i].presence ≠ .present → idle (.peerSilenceTimeout t i)) ∧
    (s.capture.sampleTimer = none → ∀ an0 an1 an2 an3 : Raw, idle (.sampleInstant t an0 an1 an2 an3))

/-! ### What every step keeps -/

/-- After a RESET with any pins, and in the reset state of the model, every invariant named here holds. -/
def Obligations.ResetMeetsEveryInvariant : Prop :=
  let meets (s : State) : Prop :=
    s.Settled ∧ s.TrackInRange ∧ s.QueuesBounded ∧ s.CountsBounded ∧ s.SettingsInRange ∧ s.OneActive ∧
    s.NoStemIsEmpty ∧ s.SilentIsStill ∧ s.StoppedIsIdle ∧ s.SawConsistent ∧ s.AutoIsReady ∧ s.SelfIsOwn ∧
    s.ChannelsSound
  meets State.reset ∧ ∀ (pins : Pins) (s u : State), exec (.reset pins) s = .next u → meets u

/-- Every step keeps P in its range of −1 000 000 to 40 000 000 µm (R50, R53), the two FIFOs at no more than four frames and
the ring at no more than four entries (R28, R64), every count at no more than 255 (R20, R22, R34, R50, R89, R165), and every
setting in the range of its item (R173, R176). -/
def Obligations.EveryStepKeepsTheBounds : Prop :=
  ∀ s u : State, step s = .next u →
    (s.TrackInRange → u.TrackInRange) ∧ (s.QueuesBounded → u.QueuesBounded) ∧ (s.CountsBounded → u.CountsBounded) ∧
    (s.SettingsInRange → u.SettingsInRange)

/-- Every step keeps at most one order ACTIVE (R103), and keeps a station without a stem without a position, orders, a
profile, a hold and a request (R52, R76, R84, R92, R124, R144). -/
def Obligations.EveryStepKeepsTheStemConsistent : Prop :=
  ∀ s u : State, step s = .next u →
    (s.OneActive → u.OneActive) ∧ (s.NoStemIsEmpty → u.NoStemIsEmpty)

/-- Every step keeps a SILENT station without frames to send and without running timers but for the PWM period timer (R30,
R177). Which timers stop in SILENT, all but that one, is the model's reading (notes/assumptions/16.md). -/
def Obligations.EveryStepKeepsSilentStationsStill : Prop :=
  ∀ s u : State, s.SilentIsStill → step s = .next u → u.SilentIsStill

/-- Every step keeps a stopped station idle, an armed release within STOPPED, and the Saw Sequencer's record and timers with
the handshake state that owns them (R124, R127, R128, R129, R142, R162), and keeps AUTO within a FEED station in RUN, on a
zeroed track with a stem whose top is not reached (R111, R112, R124). -/
def Obligations.EveryStepKeepsTheModesConsistent : Prop :=
  ∀ s u : State, step s = .next u →
    (s.StoppedIsIdle → s.SawConsistent → u.StoppedIsIdle ∧ u.SawConsistent) ∧ (s.AutoIsReady → u.AutoIsReady)

/-- Every step keeps the SELF entry the station's own, without a CONFLICT mark, and the only one (R34, R35). -/
def Obligations.EveryStepKeepsTheSelfEntry : Prop :=
  ∀ s u : State, s.SelfIsOwn → step s = .next u → u.SelfIsOwn

/-- Every step keeps the side a channel drives that of the sign of its active duty, and a latched channel off (R148, R151). -/
def Obligations.EveryStepKeepsTheChannelsSound : Prop :=
  ∀ s u : State, s.ChannelsSound → step s = .next u → u.ChannelsSound

/-- What only its own command undoes: role, identity and SILENT stand until RESET, OPERATING is left for SILENT alone, settings
change by SETUP alone and never in OPERATING, STOPPED is left by RELEASE CONFIRM alone, the severity of the record falls by
CLEAR FAULT alone, and an order of a final status keeps its slot as it is until the queue is emptied (R42, R97, R100 to R103,
R163, R165, R166, R170, R171, R175, R176). -/
def Obligations.StandingStatesAreLeftByTheirCommandsAlone : Prop :=
  ∀ (c : Instr) (s u : State), exec c s = .next u → (∀ pins, c ≠ .reset pins) →
    u.role = s.role ∧ u.identity = s.identity ∧ (s.phase = .silent → u.phase = .silent) ∧
    (s.phase = .operating → u.phase ≠ .start ∧ u.settings = s.settings) ∧
    ((∀ t i a x v, c ≠ .setup t i a x v) → u.settings = s.settings) ∧
    ((∀ t i, c ≠ .releaseConfirm t i) → s.safety.output = .stopped → u.safety.output = .stopped) ∧
    ((∀ t i a, c ≠ .clearFault t i a) → s.safety.record.severity.code ≤ u.safety.record.severity.code) ∧
    ∀ (j : Fin 12) (o : Order), s.stem.orders[j] = some o → o.status ≠ .pending → o.status ≠ .active →
      u.stem.orders[j] = some o ∨ u.stem.orders[j] = none
end

