-- ==== Sys2Proof/Laws/State.lean ====
section
/-! SUPPORT. One lemma per field for the updates that are plain records: what each leaves as it was, true by `rfl`. -/

namespace Sys2Proof.Machine

/-! The clock moves nothing else. -/

@[simp] theorem State.clock_pending (s : State) (t : Nat) : (s.clock t).pending = s.pending := rfl
@[simp] theorem State.clock_role (s : State) (t : Nat) : (s.clock t).role = s.role := rfl
@[simp] theorem State.clock_identity (s : State) (t : Nat) : (s.clock t).identity = s.identity := rfl
@[simp] theorem State.clock_phase (s : State) (t : Nat) : (s.clock t).phase = s.phase := rfl
@[simp] theorem State.clock_settings (s : State) (t : Nat) : (s.clock t).settings = s.settings := rfl
@[simp] theorem State.clock_capture (s : State) (t : Nat) : (s.clock t).capture = s.capture := rfl
@[simp] theorem State.clock_link (s : State) (t : Nat) : (s.clock t).link = s.link := rfl
@[simp] theorem State.clock_peers (s : State) (t : Nat) : (s.clock t).peers = s.peers := rfl
@[simp] theorem State.clock_fusion (s : State) (t : Nat) : (s.clock t).fusion = s.fusion := rfl
@[simp] theorem State.clock_profile (s : State) (t : Nat) : (s.clock t).profile = s.profile := rfl
@[simp] theorem State.clock_stem (s : State) (t : Nat) : (s.clock t).stem = s.stem := rfl
@[simp] theorem State.clock_feed (s : State) (t : Nat) : (s.clock t).feed = s.feed := rfl
@[simp] theorem State.clock_saw (s : State) (t : Nat) : (s.clock t).saw = s.saw := rfl
@[simp] theorem State.clock_valves (s : State) (t : Nat) : (s.clock t).valves = s.valves := rfl
@[simp] theorem State.clock_safety (s : State) (t : Nat) : (s.clock t).safety = s.safety := rfl

/-! The clock of an expiry moves nothing else. -/

@[simp] theorem State.clockDue_pending (s : State) (t due : Nat) : (s.clockDue t due).pending = s.pending := rfl
@[simp] theorem State.clockDue_role (s : State) (t due : Nat) : (s.clockDue t due).role = s.role := rfl
@[simp] theorem State.clockDue_identity (s : State) (t due : Nat) : (s.clockDue t due).identity = s.identity := rfl
@[simp] theorem State.clockDue_phase (s : State) (t due : Nat) : (s.clockDue t due).phase = s.phase := rfl
@[simp] theorem State.clockDue_settings (s : State) (t due : Nat) : (s.clockDue t due).settings = s.settings := rfl
@[simp] theorem State.clockDue_capture (s : State) (t due : Nat) : (s.clockDue t due).capture = s.capture := rfl
@[simp] theorem State.clockDue_link (s : State) (t due : Nat) : (s.clockDue t due).link = s.link := rfl
@[simp] theorem State.clockDue_peers (s : State) (t due : Nat) : (s.clockDue t due).peers = s.peers := rfl
@[simp] theorem State.clockDue_fusion (s : State) (t due : Nat) : (s.clockDue t due).fusion = s.fusion := rfl
@[simp] theorem State.clockDue_profile (s : State) (t due : Nat) : (s.clockDue t due).profile = s.profile := rfl
@[simp] theorem State.clockDue_stem (s : State) (t due : Nat) : (s.clockDue t due).stem = s.stem := rfl
@[simp] theorem State.clockDue_feed (s : State) (t due : Nat) : (s.clockDue t due).feed = s.feed := rfl
@[simp] theorem State.clockDue_saw (s : State) (t due : Nat) : (s.clockDue t due).saw = s.saw := rfl
@[simp] theorem State.clockDue_valves (s : State) (t due : Nat) : (s.clockDue t due).valves = s.valves := rfl
@[simp] theorem State.clockDue_safety (s : State) (t due : Nat) : (s.clockDue t due).safety = s.safety := rfl

/-! Replacing an entry touches the Peer Table alone. -/

@[simp] theorem State.setPeer_pending (s : State) (i : Ident) (p : Peer) : (s.setPeer i p).pending = s.pending := rfl
@[simp] theorem State.setPeer_now (s : State) (i : Ident) (p : Peer) : (s.setPeer i p).now = s.now := rfl
@[simp] theorem State.setPeer_role (s : State) (i : Ident) (p : Peer) : (s.setPeer i p).role = s.role := rfl
@[simp] theorem State.setPeer_identity (s : State) (i : Ident) (p : Peer) : (s.setPeer i p).identity = s.identity := rfl
@[simp] theorem State.setPeer_phase (s : State) (i : Ident) (p : Peer) : (s.setPeer i p).phase = s.phase := rfl
@[simp] theorem State.setPeer_settings (s : State) (i : Ident) (p : Peer) : (s.setPeer i p).settings = s.settings := rfl
@[simp] theorem State.setPeer_capture (s : State) (i : Ident) (p : Peer) : (s.setPeer i p).capture = s.capture := rfl
@[simp] theorem State.setPeer_link (s : State) (i : Ident) (p : Peer) : (s.setPeer i p).link = s.link := rfl
@[simp] theorem State.setPeer_fusion (s : State) (i : Ident) (p : Peer) : (s.setPeer i p).fusion = s.fusion := rfl
@[simp] theorem State.setPeer_profile (s : State) (i : Ident) (p : Peer) : (s.setPeer i p).profile = s.profile := rfl
@[simp] theorem State.setPeer_stem (s : State) (i : Ident) (p : Peer) : (s.setPeer i p).stem = s.stem := rfl
@[simp] theorem State.setPeer_feed (s : State) (i : Ident) (p : Peer) : (s.setPeer i p).feed = s.feed := rfl
@[simp] theorem State.setPeer_saw (s : State) (i : Ident) (p : Peer) : (s.setPeer i p).saw = s.saw := rfl
@[simp] theorem State.setPeer_valves (s : State) (i : Ident) (p : Peer) : (s.setPeer i p).valves = s.valves := rfl
@[simp] theorem State.setPeer_safety (s : State) (i : Ident) (p : Peer) : (s.setPeer i p).safety = s.safety := rfl

/-! Recording a frame touches the clock, the line and the entry. -/

@[simp] theorem State.record_pending (s : State) (t : Nat) (f : RawFrame) : (s.record t f).pending = s.pending := rfl
@[simp] theorem State.record_role (s : State) (t : Nat) (f : RawFrame) : (s.record t f).role = s.role := rfl
@[simp] theorem State.record_identity (s : State) (t : Nat) (f : RawFrame) : (s.record t f).identity = s.identity := rfl
@[simp] theorem State.record_phase (s : State) (t : Nat) (f : RawFrame) : (s.record t f).phase = s.phase := rfl
@[simp] theorem State.record_settings (s : State) (t : Nat) (f : RawFrame) : (s.record t f).settings = s.settings := rfl
@[simp] theorem State.record_capture (s : State) (t : Nat) (f : RawFrame) : (s.record t f).capture = s.capture := rfl
@[simp] theorem State.record_fusion (s : State) (t : Nat) (f : RawFrame) : (s.record t f).fusion = s.fusion := rfl
@[simp] theorem State.record_profile (s : State) (t : Nat) (f : RawFrame) : (s.record t f).profile = s.profile := rfl
@[simp] theorem State.record_stem (s : State) (t : Nat) (f : RawFrame) : (s.record t f).stem = s.stem := rfl
@[simp] theorem State.record_feed (s : State) (t : Nat) (f : RawFrame) : (s.record t f).feed = s.feed := rfl
@[simp] theorem State.record_saw (s : State) (t : Nat) (f : RawFrame) : (s.record t f).saw = s.saw := rfl
@[simp] theorem State.record_valves (s : State) (t : Nat) (f : RawFrame) : (s.record t f).valves = s.valves := rfl
@[simp] theorem State.record_safety (s : State) (t : Nat) (f : RawFrame) : (s.record t f).safety = s.safety := rfl

/-! A capture touches the record and the FAULT NOTICE slot. -/

@[simp] theorem State.report_pending (s : State) (k : FaultKind) (c : Option FrameClass) (o : Option Ident) : (s.report k c o).pending = s.pending := rfl
@[simp] theorem State.report_now (s : State) (k : FaultKind) (c : Option FrameClass) (o : Option Ident) : (s.report k c o).now = s.now := rfl
@[simp] theorem State.report_role (s : State) (k : FaultKind) (c : Option FrameClass) (o : Option Ident) : (s.report k c o).role = s.role := rfl
@[simp] theorem State.report_identity (s : State) (k : FaultKind) (c : Option FrameClass) (o : Option Ident) : (s.report k c o).identity = s.identity := rfl
@[simp] theorem State.report_phase (s : State) (k : FaultKind) (c : Option FrameClass) (o : Option Ident) : (s.report k c o).phase = s.phase := rfl
@[simp] theorem State.report_settings (s : State) (k : FaultKind) (c : Option FrameClass) (o : Option Ident) : (s.report k c o).settings = s.settings := rfl
@[simp] theorem State.report_capture (s : State) (k : FaultKind) (c : Option FrameClass) (o : Option Ident) : (s.report k c o).capture = s.capture := rfl
@[simp] theorem State.report_peers (s : State) (k : FaultKind) (c : Option FrameClass) (o : Option Ident) : (s.report k c o).peers = s.peers := rfl
@[simp] theorem State.report_fusion (s : State) (k : FaultKind) (c : Option FrameClass) (o : Option Ident) : (s.report k c o).fusion = s.fusion := rfl
@[simp] theorem State.report_profile (s : State) (k : FaultKind) (c : Option FrameClass) (o : Option Ident) : (s.report k c o).profile = s.profile := rfl
@[simp] theorem State.report_stem (s : State) (k : FaultKind) (c : Option FrameClass) (o : Option Ident) : (s.report k c o).stem = s.stem := rfl
@[simp] theorem State.report_feed (s : State) (k : FaultKind) (c : Option FrameClass) (o : Option Ident) : (s.report k c o).feed = s.feed := rfl
@[simp] theorem State.report_saw (s : State) (k : FaultKind) (c : Option FrameClass) (o : Option Ident) : (s.report k c o).saw = s.saw := rfl
@[simp] theorem State.report_valves (s : State) (k : FaultKind) (c : Option FrameClass) (o : Option Ident) : (s.report k c o).valves = s.valves := rfl

/-! The keep-alive timer is the Link Controller's. -/

@[simp] theorem State.startKeepAlive_pending (s : State) : (s.startKeepAlive).pending = s.pending := rfl
@[simp] theorem State.startKeepAlive_now (s : State) : (s.startKeepAlive).now = s.now := rfl
@[simp] theorem State.startKeepAlive_role (s : State) : (s.startKeepAlive).role = s.role := rfl
@[simp] theorem State.startKeepAlive_identity (s : State) : (s.startKeepAlive).identity = s.identity := rfl
@[simp] theorem State.startKeepAlive_phase (s : State) : (s.startKeepAlive).phase = s.phase := rfl
@[simp] theorem State.startKeepAlive_settings (s : State) : (s.startKeepAlive).settings = s.settings := rfl
@[simp] theorem State.startKeepAlive_capture (s : State) : (s.startKeepAlive).capture = s.capture := rfl
@[simp] theorem State.startKeepAlive_peers (s : State) : (s.startKeepAlive).peers = s.peers := rfl
@[simp] theorem State.startKeepAlive_fusion (s : State) : (s.startKeepAlive).fusion = s.fusion := rfl
@[simp] theorem State.startKeepAlive_profile (s : State) : (s.startKeepAlive).profile = s.profile := rfl
@[simp] theorem State.startKeepAlive_stem (s : State) : (s.startKeepAlive).stem = s.stem := rfl
@[simp] theorem State.startKeepAlive_feed (s : State) : (s.startKeepAlive).feed = s.feed := rfl
@[simp] theorem State.startKeepAlive_saw (s : State) : (s.startKeepAlive).saw = s.saw := rfl
@[simp] theorem State.startKeepAlive_valves (s : State) : (s.startKeepAlive).valves = s.valves := rfl
@[simp] theorem State.startKeepAlive_safety (s : State) : (s.startKeepAlive).safety = s.safety := rfl

/-! A change of handshake state is the sequencer's alone. -/

@[simp] theorem State.sawEnter_pending (s : State) (st : SawState) : (s.sawEnter st).pending = s.pending := rfl
@[simp] theorem State.sawEnter_now (s : State) (st : SawState) : (s.sawEnter st).now = s.now := rfl
@[simp] theorem State.sawEnter_role (s : State) (st : SawState) : (s.sawEnter st).role = s.role := rfl
@[simp] theorem State.sawEnter_identity (s : State) (st : SawState) : (s.sawEnter st).identity = s.identity := rfl
@[simp] theorem State.sawEnter_phase (s : State) (st : SawState) : (s.sawEnter st).phase = s.phase := rfl
@[simp] theorem State.sawEnter_settings (s : State) (st : SawState) : (s.sawEnter st).settings = s.settings := rfl
@[simp] theorem State.sawEnter_capture (s : State) (st : SawState) : (s.sawEnter st).capture = s.capture := rfl
@[simp] theorem State.sawEnter_link (s : State) (st : SawState) : (s.sawEnter st).link = s.link := rfl
@[simp] theorem State.sawEnter_peers (s : State) (st : SawState) : (s.sawEnter st).peers = s.peers := rfl
@[simp] theorem State.sawEnter_fusion (s : State) (st : SawState) : (s.sawEnter st).fusion = s.fusion := rfl
@[simp] theorem State.sawEnter_profile (s : State) (st : SawState) : (s.sawEnter st).profile = s.profile := rfl
@[simp] theorem State.sawEnter_stem (s : State) (st : SawState) : (s.sawEnter st).stem = s.stem := rfl
@[simp] theorem State.sawEnter_feed (s : State) (st : SawState) : (s.sawEnter st).feed = s.feed := rfl
@[simp] theorem State.sawEnter_valves (s : State) (st : SawState) : (s.sawEnter st).valves = s.valves := rfl
@[simp] theorem State.sawEnter_safety (s : State) (st : SawState) : (s.sawEnter st).safety = s.safety := rfl

/-! A change of stem state reaches the blocks that follow it and no other. -/

@[simp] theorem State.enterStem_pending (s : State) (st : StemState) : (s.enterStem st).pending = s.pending := rfl
@[simp] theorem State.enterStem_now (s : State) (st : StemState) : (s.enterStem st).now = s.now := rfl
@[simp] theorem State.enterStem_role (s : State) (st : StemState) : (s.enterStem st).role = s.role := rfl
@[simp] theorem State.enterStem_identity (s : State) (st : StemState) : (s.enterStem st).identity = s.identity := rfl
@[simp] theorem State.enterStem_phase (s : State) (st : StemState) : (s.enterStem st).phase = s.phase := rfl
@[simp] theorem State.enterStem_settings (s : State) (st : StemState) : (s.enterStem st).settings = s.settings := rfl
@[simp] theorem State.enterStem_capture (s : State) (st : StemState) : (s.enterStem st).capture = s.capture := rfl
@[simp] theorem State.enterStem_link (s : State) (st : StemState) : (s.enterStem st).link = s.link := rfl
@[simp] theorem State.enterStem_peers (s : State) (st : StemState) : (s.enterStem st).peers = s.peers := rfl
@[simp] theorem State.enterStem_safety (s : State) (st : StemState) : (s.enterStem st).safety = s.safety := rfl

/-! The entry into SILENT keeps these. -/

@[simp] theorem State.enterSilent_pending (s : State) : (s.enterSilent).pending = s.pending := rfl
@[simp] theorem State.enterSilent_now (s : State) : (s.enterSilent).now = s.now := rfl
@[simp] theorem State.enterSilent_role (s : State) : (s.enterSilent).role = s.role := rfl
@[simp] theorem State.enterSilent_identity (s : State) : (s.enterSilent).identity = s.identity := rfl
@[simp] theorem State.enterSilent_settings (s : State) : (s.enterSilent).settings = s.settings := rfl
@[simp] theorem State.enterSilent_peers (s : State) : (s.enterSilent).peers = s.peers := rfl
@[simp] theorem State.enterSilent_profile (s : State) : (s.enterSilent).profile = s.profile := rfl
@[simp] theorem State.enterSilent_stem (s : State) : (s.enterSilent).stem = s.stem := rfl

/-! What follows the state is brought up to date, and nothing else. -/

@[simp] theorem State.refresh_pending (s : State) : (s.refresh).pending = s.pending := rfl
@[simp] theorem State.refresh_now (s : State) : (s.refresh).now = s.now := rfl
@[simp] theorem State.refresh_role (s : State) : (s.refresh).role = s.role := rfl
@[simp] theorem State.refresh_identity (s : State) : (s.refresh).identity = s.identity := rfl
@[simp] theorem State.refresh_phase (s : State) : (s.refresh).phase = s.phase := rfl
@[simp] theorem State.refresh_settings (s : State) : (s.refresh).settings = s.settings := rfl
@[simp] theorem State.refresh_capture (s : State) : (s.refresh).capture = s.capture := rfl
@[simp] theorem State.refresh_link (s : State) : (s.refresh).link = s.link := rfl
@[simp] theorem State.refresh_fusion (s : State) : (s.refresh).fusion = s.fusion := rfl
@[simp] theorem State.refresh_profile (s : State) : (s.refresh).profile = s.profile := rfl
@[simp] theorem State.refresh_stem (s : State) : (s.refresh).stem = s.stem := rfl

/-! The fields an update sets, and the parts of a block it keeps. -/

@[simp] theorem State.clock_now (s : State) (t : Nat) : (s.clock t).now = max s.now t := rfl
@[simp] theorem State.clockDue_now (s : State) (t due : Nat) : (s.clockDue t due).now = max (max s.now t) due := rfl
@[simp] theorem State.setPeer_peers (s : State) (i : Ident) (p : Peer) : (s.setPeer i p).peers = s.peers.set i p := rfl
@[simp] theorem State.record_now (s : State) (t : Nat) (f : RawFrame) : (s.record t f).now = max s.now t := rfl
@[simp] theorem State.record_peers (s : State) (t : Nat) (f : RawFrame) :
    (s.record t f).peers =
      s.peers.set f.sender (s.peers[f.sender].heard (max s.now t) s.settings.silenceTimeout f.cls) := rfl
@[simp] theorem State.enterStem_stem_state (s : State) (st : StemState) : (s.enterStem st).stem.state = st := rfl
@[simp] theorem State.enterStem_orders (s : State) (st : StemState) : (s.enterStem st).stem.orders = s.stem.orders := rfl
@[simp] theorem State.enterStem_serial (s : State) (st : StemState) : (s.enterStem st).stem.serial = s.stem.serial := rfl
@[simp] theorem State.enterSilent_phase (s : State) : s.enterSilent.phase = .silent := rfl
@[simp] theorem State.sawEnter_state (s : State) (st : SawState) : (s.sawEnter st).saw.state = st := rfl
@[simp] theorem State.sawEnter_record (s : State) (st : SawState) : (s.sawEnter st).saw.record = s.saw.record := rfl
@[simp] theorem State.report_output (s : State) (k : FaultKind) (c : Option FrameClass) (o : Option Ident) :
    (s.report k c o).safety.output = s.safety.output := rfl
@[simp] theorem State.report_arming (s : State) (k : FaultKind) (c : Option FrameClass) (o : Option Ident) :
    (s.report k c o).safety.arming = s.safety.arming := rfl
@[simp] theorem State.report_stopAsserted (s : State) (k : FaultKind) (c : Option FrameClass) (o : Option Ident) :
    (s.report k c o).safety.stopAsserted = s.safety.stopAsserted := rfl
@[simp] theorem State.report_previous (s : State) (k : FaultKind) (c : Option FrameClass) (o : Option Ident) :
    (s.report k c o).safety.previous = s.safety.previous := rfl
@[simp] theorem State.report_record (s : State) (k : FaultKind) (c : Option FrameClass) (o : Option Ident) :
    (s.report k c o).safety.record = takeCapture s.safety.record (s.captureFields k c o) := rfl
@[simp] theorem State.report_handshake (s : State) (k : FaultKind) (c : Option FrameClass) (o : Option Ident) :
    (s.report k c o).link.handshake = s.link.handshake := rfl
@[simp] theorem State.refresh_output (s : State) : s.refresh.safety.output = s.safety.output := rfl
@[simp] theorem State.refresh_record (s : State) : s.refresh.safety.record = s.safety.record := rfl
@[simp] theorem State.refresh_faultLine (s : State) : s.refresh.safety.faultLine = faultLineOf s.safety.record := rfl
@[simp] theorem State.refresh_feed_mode (s : State) : s.refresh.feed.mode = s.feed.mode := rfl
@[simp] theorem State.refresh_feed_hold (s : State) : s.refresh.feed.hold = s.feed.hold := rfl
@[simp] theorem State.refresh_feed_demand (s : State) : s.refresh.feed.demand = s.feed.demand := rfl
@[simp] theorem State.refresh_saw_state (s : State) : s.refresh.saw.state = s.saw.state := rfl
@[simp] theorem State.refresh_saw_record (s : State) : s.refresh.saw.record = s.saw.record := rfl

end Sys2Proof.Machine
end

