-- ==== Sys2Proof/Laws/Ops.lean ====
section
/-! SUPPORT. One lemma per shared operation for what it keeps, and one for what it does, so that later proofs need not
unfold it. -/

namespace Sys2Proof.Machine

/-- The outcome of every command that ends in `done`. -/
@[simp] theorem State.done_eq (s : State) : s.done = .next s.refresh := rfl

@[simp] theorem State.placeHandshake_pending (s : State) (f : Frame) : (s.placeHandshake f).pending = s.pending := by
  unfold State.placeHandshake; split <;> [rfl; split <;> rfl]
@[simp] theorem State.placeHandshake_now (s : State) (f : Frame) : (s.placeHandshake f).now = s.now := by
  unfold State.placeHandshake; split <;> [rfl; split <;> rfl]
@[simp] theorem State.placeHandshake_role (s : State) (f : Frame) : (s.placeHandshake f).role = s.role := by
  unfold State.placeHandshake; split <;> [rfl; split <;> rfl]
@[simp] theorem State.placeHandshake_identity (s : State) (f : Frame) : (s.placeHandshake f).identity = s.identity := by
  unfold State.placeHandshake; split <;> [rfl; split <;> rfl]
@[simp] theorem State.placeHandshake_phase (s : State) (f : Frame) : (s.placeHandshake f).phase = s.phase := by
  unfold State.placeHandshake; split <;> [rfl; split <;> rfl]
@[simp] theorem State.placeHandshake_settings (s : State) (f : Frame) : (s.placeHandshake f).settings = s.settings := by
  unfold State.placeHandshake; split <;> [rfl; split <;> rfl]
@[simp] theorem State.placeHandshake_capture (s : State) (f : Frame) : (s.placeHandshake f).capture = s.capture := by
  unfold State.placeHandshake; split <;> [rfl; split <;> rfl]
@[simp] theorem State.placeHandshake_peers (s : State) (f : Frame) : (s.placeHandshake f).peers = s.peers := by
  unfold State.placeHandshake; split <;> [rfl; split <;> rfl]
@[simp] theorem State.placeHandshake_fusion (s : State) (f : Frame) : (s.placeHandshake f).fusion = s.fusion := by
  unfold State.placeHandshake; split <;> [rfl; split <;> rfl]
@[simp] theorem State.placeHandshake_profile (s : State) (f : Frame) : (s.placeHandshake f).profile = s.profile := by
  unfold State.placeHandshake; split <;> [rfl; split <;> rfl]
@[simp] theorem State.placeHandshake_stem (s : State) (f : Frame) : (s.placeHandshake f).stem = s.stem := by
  unfold State.placeHandshake; split <;> [rfl; split <;> rfl]
@[simp] theorem State.placeHandshake_feed (s : State) (f : Frame) : (s.placeHandshake f).feed = s.feed := by
  unfold State.placeHandshake; split <;> [rfl; split <;> rfl]
@[simp] theorem State.placeHandshake_saw (s : State) (f : Frame) : (s.placeHandshake f).saw = s.saw := by
  unfold State.placeHandshake; split <;> [rfl; split <;> rfl]
@[simp] theorem State.placeHandshake_valves (s : State) (f : Frame) : (s.placeHandshake f).valves = s.valves := by
  unfold State.placeHandshake; split <;> [rfl; split <;> rfl]

@[simp] theorem State.placeLog_pending (s : State) (r : LogRecord) : (s.placeLog r).pending = s.pending := by
  unfold State.placeLog; split <;> [rfl; split <;> rfl]
@[simp] theorem State.placeLog_now (s : State) (r : LogRecord) : (s.placeLog r).now = s.now := by
  unfold State.placeLog; split <;> [rfl; split <;> rfl]
@[simp] theorem State.placeLog_role (s : State) (r : LogRecord) : (s.placeLog r).role = s.role := by
  unfold State.placeLog; split <;> [rfl; split <;> rfl]
@[simp] theorem State.placeLog_identity (s : State) (r : LogRecord) : (s.placeLog r).identity = s.identity := by
  unfold State.placeLog; split <;> [rfl; split <;> rfl]
@[simp] theorem State.placeLog_phase (s : State) (r : LogRecord) : (s.placeLog r).phase = s.phase := by
  unfold State.placeLog; split <;> [rfl; split <;> rfl]
@[simp] theorem State.placeLog_settings (s : State) (r : LogRecord) : (s.placeLog r).settings = s.settings := by
  unfold State.placeLog; split <;> [rfl; split <;> rfl]
@[simp] theorem State.placeLog_capture (s : State) (r : LogRecord) : (s.placeLog r).capture = s.capture := by
  unfold State.placeLog; split <;> [rfl; split <;> rfl]
@[simp] theorem State.placeLog_peers (s : State) (r : LogRecord) : (s.placeLog r).peers = s.peers := by
  unfold State.placeLog; split <;> [rfl; split <;> rfl]
@[simp] theorem State.placeLog_fusion (s : State) (r : LogRecord) : (s.placeLog r).fusion = s.fusion := by
  unfold State.placeLog; split <;> [rfl; split <;> rfl]
@[simp] theorem State.placeLog_profile (s : State) (r : LogRecord) : (s.placeLog r).profile = s.profile := by
  unfold State.placeLog; split <;> [rfl; split <;> rfl]
@[simp] theorem State.placeLog_stem (s : State) (r : LogRecord) : (s.placeLog r).stem = s.stem := by
  unfold State.placeLog; split <;> [rfl; split <;> rfl]
@[simp] theorem State.placeLog_feed (s : State) (r : LogRecord) : (s.placeLog r).feed = s.feed := by
  unfold State.placeLog; split <;> [rfl; split <;> rfl]
@[simp] theorem State.placeLog_saw (s : State) (r : LogRecord) : (s.placeLog r).saw = s.saw := by
  unfold State.placeLog; split <;> [rfl; split <;> rfl]
@[simp] theorem State.placeLog_valves (s : State) (r : LogRecord) : (s.placeLog r).valves = s.valves := by
  unfold State.placeLog; split <;> [rfl; split <;> rfl]

@[simp] theorem State.placeStopNotice_pending (s : State) (k : FaultKind) : (s.placeStopNotice k).pending = s.pending := by
  unfold State.placeStopNotice; split <;> rfl
@[simp] theorem State.placeStopNotice_now (s : State) (k : FaultKind) : (s.placeStopNotice k).now = s.now := by
  unfold State.placeStopNotice; split <;> rfl
@[simp] theorem State.placeStopNotice_role (s : State) (k : FaultKind) : (s.placeStopNotice k).role = s.role := by
  unfold State.placeStopNotice; split <;> rfl
@[simp] theorem State.placeStopNotice_identity (s : State) (k : FaultKind) : (s.placeStopNotice k).identity = s.identity := by
  unfold State.placeStopNotice; split <;> rfl
@[simp] theorem State.placeStopNotice_phase (s : State) (k : FaultKind) : (s.placeStopNotice k).phase = s.phase := by
  unfold State.placeStopNotice; split <;> rfl
@[simp] theorem State.placeStopNotice_settings (s : State) (k : FaultKind) : (s.placeStopNotice k).settings = s.settings := by
  unfold State.placeStopNotice; split <;> rfl
@[simp] theorem State.placeStopNotice_capture (s : State) (k : FaultKind) : (s.placeStopNotice k).capture = s.capture := by
  unfold State.placeStopNotice; split <;> rfl
@[simp] theorem State.placeStopNotice_peers (s : State) (k : FaultKind) : (s.placeStopNotice k).peers = s.peers := by
  unfold State.placeStopNotice; split <;> rfl
@[simp] theorem State.placeStopNotice_fusion (s : State) (k : FaultKind) : (s.placeStopNotice k).fusion = s.fusion := by
  unfold State.placeStopNotice; split <;> rfl
@[simp] theorem State.placeStopNotice_profile (s : State) (k : FaultKind) : (s.placeStopNotice k).profile = s.profile := by
  unfold State.placeStopNotice; split <;> rfl
@[simp] theorem State.placeStopNotice_stem (s : State) (k : FaultKind) : (s.placeStopNotice k).stem = s.stem := by
  unfold State.placeStopNotice; split <;> rfl
@[simp] theorem State.placeStopNotice_feed (s : State) (k : FaultKind) : (s.placeStopNotice k).feed = s.feed := by
  unfold State.placeStopNotice; split <;> rfl
@[simp] theorem State.placeStopNotice_saw (s : State) (k : FaultKind) : (s.placeStopNotice k).saw = s.saw := by
  unfold State.placeStopNotice; split <;> rfl
@[simp] theorem State.placeStopNotice_valves (s : State) (k : FaultKind) : (s.placeStopNotice k).valves = s.valves := by
  unfold State.placeStopNotice; split <;> rfl
@[simp] theorem State.placeStopNotice_safety (s : State) (k : FaultKind) : (s.placeStopNotice k).safety = s.safety := by
  unfold State.placeStopNotice; split <;> rfl

@[simp] theorem State.callAnnounce_pending (s : State) : (s.callAnnounce).pending = s.pending := by
  unfold State.callAnnounce; split <;> [rfl; (split <;> [rfl; (split <;> rfl); rfl])]
@[simp] theorem State.callAnnounce_now (s : State) : (s.callAnnounce).now = s.now := by
  unfold State.callAnnounce; split <;> [rfl; (split <;> [rfl; (split <;> rfl); rfl])]
@[simp] theorem State.callAnnounce_role (s : State) : (s.callAnnounce).role = s.role := by
  unfold State.callAnnounce; split <;> [rfl; (split <;> [rfl; (split <;> rfl); rfl])]
@[simp] theorem State.callAnnounce_identity (s : State) : (s.callAnnounce).identity = s.identity := by
  unfold State.callAnnounce; split <;> [rfl; (split <;> [rfl; (split <;> rfl); rfl])]
@[simp] theorem State.callAnnounce_phase (s : State) : (s.callAnnounce).phase = s.phase := by
  unfold State.callAnnounce; split <;> [rfl; (split <;> [rfl; (split <;> rfl); rfl])]
@[simp] theorem State.callAnnounce_settings (s : State) : (s.callAnnounce).settings = s.settings := by
  unfold State.callAnnounce; split <;> [rfl; (split <;> [rfl; (split <;> rfl); rfl])]
@[simp] theorem State.callAnnounce_capture (s : State) : (s.callAnnounce).capture = s.capture := by
  unfold State.callAnnounce; split <;> [rfl; (split <;> [rfl; (split <;> rfl); rfl])]
@[simp] theorem State.callAnnounce_peers (s : State) : (s.callAnnounce).peers = s.peers := by
  unfold State.callAnnounce; split <;> [rfl; (split <;> [rfl; (split <;> rfl); rfl])]
@[simp] theorem State.callAnnounce_fusion (s : State) : (s.callAnnounce).fusion = s.fusion := by
  unfold State.callAnnounce; split <;> [rfl; (split <;> [rfl; (split <;> rfl); rfl])]
@[simp] theorem State.callAnnounce_profile (s : State) : (s.callAnnounce).profile = s.profile := by
  unfold State.callAnnounce; split <;> [rfl; (split <;> [rfl; (split <;> rfl); rfl])]
@[simp] theorem State.callAnnounce_stem (s : State) : (s.callAnnounce).stem = s.stem := by
  unfold State.callAnnounce; split <;> [rfl; (split <;> [rfl; (split <;> rfl); rfl])]
@[simp] theorem State.callAnnounce_feed (s : State) : (s.callAnnounce).feed = s.feed := by
  unfold State.callAnnounce; split <;> [rfl; (split <;> [rfl; (split <;> rfl); rfl])]
@[simp] theorem State.callAnnounce_saw (s : State) : (s.callAnnounce).saw = s.saw := by
  unfold State.callAnnounce; split <;> [rfl; (split <;> [rfl; (split <;> rfl); rfl])]
@[simp] theorem State.callAnnounce_valves (s : State) : (s.callAnnounce).valves = s.valves := by
  unfold State.callAnnounce; split <;> [rfl; (split <;> [rfl; (split <;> rfl); rfl])]
@[simp] theorem State.callAnnounce_safety (s : State) : (s.callAnnounce).safety = s.safety := by
  unfold State.callAnnounce; split <;> [rfl; (split <;> [rfl; (split <;> rfl); rfl])]

@[simp] theorem State.repeatAnnounce_pending (s : State) : (s.repeatAnnounce).pending = s.pending := by
  unfold State.repeatAnnounce; split <;> rfl
@[simp] theorem State.repeatAnnounce_now (s : State) : (s.repeatAnnounce).now = s.now := by
  unfold State.repeatAnnounce; split <;> rfl
@[simp] theorem State.repeatAnnounce_role (s : State) : (s.repeatAnnounce).role = s.role := by
  unfold State.repeatAnnounce; split <;> rfl
@[simp] theorem State.repeatAnnounce_identity (s : State) : (s.repeatAnnounce).identity = s.identity := by
  unfold State.repeatAnnounce; split <;> rfl
@[simp] theorem State.repeatAnnounce_phase (s : State) : (s.repeatAnnounce).phase = s.phase := by
  unfold State.repeatAnnounce; split <;> rfl
@[simp] theorem State.repeatAnnounce_settings (s : State) : (s.repeatAnnounce).settings = s.settings := by
  unfold State.repeatAnnounce; split <;> rfl
@[simp] theorem State.repeatAnnounce_capture (s : State) : (s.repeatAnnounce).capture = s.capture := by
  unfold State.repeatAnnounce; split <;> rfl
@[simp] theorem State.repeatAnnounce_peers (s : State) : (s.repeatAnnounce).peers = s.peers := by
  unfold State.repeatAnnounce; split <;> rfl
@[simp] theorem State.repeatAnnounce_fusion (s : State) : (s.repeatAnnounce).fusion = s.fusion := by
  unfold State.repeatAnnounce; split <;> rfl
@[simp] theorem State.repeatAnnounce_profile (s : State) : (s.repeatAnnounce).profile = s.profile := by
  unfold State.repeatAnnounce; split <;> rfl
@[simp] theorem State.repeatAnnounce_stem (s : State) : (s.repeatAnnounce).stem = s.stem := by
  unfold State.repeatAnnounce; split <;> rfl
@[simp] theorem State.repeatAnnounce_feed (s : State) : (s.repeatAnnounce).feed = s.feed := by
  unfold State.repeatAnnounce; split <;> rfl
@[simp] theorem State.repeatAnnounce_saw (s : State) : (s.repeatAnnounce).saw = s.saw := by
  unfold State.repeatAnnounce; split <;> rfl
@[simp] theorem State.repeatAnnounce_valves (s : State) : (s.repeatAnnounce).valves = s.valves := by
  unfold State.repeatAnnounce; split <;> rfl
@[simp] theorem State.repeatAnnounce_safety (s : State) : (s.repeatAnnounce).safety = s.safety := by
  unfold State.repeatAnnounce; split <;> rfl

@[simp] theorem State.judgePassed_pending (s : State) (i : Fin 12) (o : Order) : (s.judgePassed i o).pending = s.pending := by
  unfold State.judgePassed; split <;> simp
@[simp] theorem State.judgePassed_now (s : State) (i : Fin 12) (o : Order) : (s.judgePassed i o).now = s.now := by
  unfold State.judgePassed; split <;> simp
@[simp] theorem State.judgePassed_role (s : State) (i : Fin 12) (o : Order) : (s.judgePassed i o).role = s.role := by
  unfold State.judgePassed; split <;> simp
@[simp] theorem State.judgePassed_identity (s : State) (i : Fin 12) (o : Order) : (s.judgePassed i o).identity = s.identity := by
  unfold State.judgePassed; split <;> simp
@[simp] theorem State.judgePassed_phase (s : State) (i : Fin 12) (o : Order) : (s.judgePassed i o).phase = s.phase := by
  unfold State.judgePassed; split <;> simp
@[simp] theorem State.judgePassed_settings (s : State) (i : Fin 12) (o : Order) : (s.judgePassed i o).settings = s.settings := by
  unfold State.judgePassed; split <;> simp
@[simp] theorem State.judgePassed_capture (s : State) (i : Fin 12) (o : Order) : (s.judgePassed i o).capture = s.capture := by
  unfold State.judgePassed; split <;> simp
@[simp] theorem State.judgePassed_peers (s : State) (i : Fin 12) (o : Order) : (s.judgePassed i o).peers = s.peers := by
  unfold State.judgePassed; split <;> simp
@[simp] theorem State.judgePassed_fusion (s : State) (i : Fin 12) (o : Order) : (s.judgePassed i o).fusion = s.fusion := by
  unfold State.judgePassed; split <;> simp
@[simp] theorem State.judgePassed_profile (s : State) (i : Fin 12) (o : Order) : (s.judgePassed i o).profile = s.profile := by
  unfold State.judgePassed; split <;> simp
@[simp] theorem State.judgePassed_stem (s : State) (i : Fin 12) (o : Order) : (s.judgePassed i o).stem = s.stem := by
  unfold State.judgePassed; split <;> simp
@[simp] theorem State.judgePassed_feed (s : State) (i : Fin 12) (o : Order) : (s.judgePassed i o).feed = s.feed := by
  unfold State.judgePassed; split <;> simp
@[simp] theorem State.judgePassed_saw (s : State) (i : Fin 12) (o : Order) : (s.judgePassed i o).saw = s.saw := by
  unfold State.judgePassed; split <;> simp
@[simp] theorem State.judgePassed_valves (s : State) (i : Fin 12) (o : Order) : (s.judgePassed i o).valves = s.valves := by
  unfold State.judgePassed; split <;> simp

@[simp] theorem State.activate_pending (s : State) : (s.activate).pending = s.pending := by
  unfold State.activate; split <;> [(split <;> [rfl; (split <;> [rfl; simp])]); rfl]
@[simp] theorem State.activate_now (s : State) : (s.activate).now = s.now := by
  unfold State.activate; split <;> [(split <;> [rfl; (split <;> [rfl; simp])]); rfl]
@[simp] theorem State.activate_role (s : State) : (s.activate).role = s.role := by
  unfold State.activate; split <;> [(split <;> [rfl; (split <;> [rfl; simp])]); rfl]
@[simp] theorem State.activate_identity (s : State) : (s.activate).identity = s.identity := by
  unfold State.activate; split <;> [(split <;> [rfl; (split <;> [rfl; simp])]); rfl]
@[simp] theorem State.activate_phase (s : State) : (s.activate).phase = s.phase := by
  unfold State.activate; split <;> [(split <;> [rfl; (split <;> [rfl; simp])]); rfl]
@[simp] theorem State.activate_settings (s : State) : (s.activate).settings = s.settings := by
  unfold State.activate; split <;> [(split <;> [rfl; (split <;> [rfl; simp])]); rfl]
@[simp] theorem State.activate_capture (s : State) : (s.activate).capture = s.capture := by
  unfold State.activate; split <;> [(split <;> [rfl; (split <;> [rfl; simp])]); rfl]
@[simp] theorem State.activate_peers (s : State) : (s.activate).peers = s.peers := by
  unfold State.activate; split <;> [(split <;> [rfl; (split <;> [rfl; simp])]); rfl]
@[simp] theorem State.activate_fusion (s : State) : (s.activate).fusion = s.fusion := by
  unfold State.activate; split <;> [(split <;> [rfl; (split <;> [rfl; simp])]); rfl]
@[simp] theorem State.activate_profile (s : State) : (s.activate).profile = s.profile := by
  unfold State.activate; split <;> [(split <;> [rfl; (split <;> [rfl; simp])]); rfl]
@[simp] theorem State.activate_feed (s : State) : (s.activate).feed = s.feed := by
  unfold State.activate; split <;> [(split <;> [rfl; (split <;> [rfl; simp])]); rfl]
@[simp] theorem State.activate_saw (s : State) : (s.activate).saw = s.saw := by
  unfold State.activate; split <;> [(split <;> [rfl; (split <;> [rfl; simp])]); rfl]
@[simp] theorem State.activate_valves (s : State) : (s.activate).valves = s.valves := by
  unfold State.activate; split <;> [(split <;> [rfl; (split <;> [rfl; simp])]); rfl]

@[simp] theorem State.closeStem_pending (s : State) : (s.closeStem).pending = s.pending := by
  unfold State.closeStem; rfl
@[simp] theorem State.closeStem_now (s : State) : (s.closeStem).now = s.now := by
  unfold State.closeStem; rfl
@[simp] theorem State.closeStem_role (s : State) : (s.closeStem).role = s.role := by
  unfold State.closeStem; rfl
@[simp] theorem State.closeStem_identity (s : State) : (s.closeStem).identity = s.identity := by
  unfold State.closeStem; rfl
@[simp] theorem State.closeStem_phase (s : State) : (s.closeStem).phase = s.phase := by
  unfold State.closeStem; rfl
@[simp] theorem State.closeStem_settings (s : State) : (s.closeStem).settings = s.settings := by
  unfold State.closeStem; rfl
@[simp] theorem State.closeStem_capture (s : State) : (s.closeStem).capture = s.capture := by
  unfold State.closeStem; rfl
@[simp] theorem State.closeStem_link (s : State) : (s.closeStem).link = s.link := by
  unfold State.closeStem; rfl
@[simp] theorem State.closeStem_peers (s : State) : (s.closeStem).peers = s.peers := by
  unfold State.closeStem; rfl
@[simp] theorem State.closeStem_safety (s : State) : (s.closeStem).safety = s.safety := by
  unfold State.closeStem; rfl

@[simp] theorem State.leaveCutting_pending (s : State) (st : StemState) : (s.leaveCutting st).pending = s.pending := by
  unfold State.leaveCutting; split <;> simp
@[simp] theorem State.leaveCutting_now (s : State) (st : StemState) : (s.leaveCutting st).now = s.now := by
  unfold State.leaveCutting; split <;> simp
@[simp] theorem State.leaveCutting_role (s : State) (st : StemState) : (s.leaveCutting st).role = s.role := by
  unfold State.leaveCutting; split <;> simp
@[simp] theorem State.leaveCutting_identity (s : State) (st : StemState) : (s.leaveCutting st).identity = s.identity := by
  unfold State.leaveCutting; split <;> simp
@[simp] theorem State.leaveCutting_phase (s : State) (st : StemState) : (s.leaveCutting st).phase = s.phase := by
  unfold State.leaveCutting; split <;> simp
@[simp] theorem State.leaveCutting_settings (s : State) (st : StemState) : (s.leaveCutting st).settings = s.settings := by
  unfold State.leaveCutting; split <;> simp
@[simp] theorem State.leaveCutting_capture (s : State) (st : StemState) : (s.leaveCutting st).capture = s.capture := by
  unfold State.leaveCutting; split <;> simp
@[simp] theorem State.leaveCutting_peers (s : State) (st : StemState) : (s.leaveCutting st).peers = s.peers := by
  unfold State.leaveCutting; split <;> simp

@[simp] theorem State.enterStopped_pending (s : State) : (s.enterStopped).pending = s.pending := by
  unfold State.enterStopped; simp
@[simp] theorem State.enterStopped_now (s : State) : (s.enterStopped).now = s.now := by
  unfold State.enterStopped; simp
@[simp] theorem State.enterStopped_role (s : State) : (s.enterStopped).role = s.role := by
  unfold State.enterStopped; simp
@[simp] theorem State.enterStopped_identity (s : State) : (s.enterStopped).identity = s.identity := by
  unfold State.enterStopped; simp
@[simp] theorem State.enterStopped_phase (s : State) : (s.enterStopped).phase = s.phase := by
  unfold State.enterStopped; simp
@[simp] theorem State.enterStopped_settings (s : State) : (s.enterStopped).settings = s.settings := by
  unfold State.enterStopped; simp
@[simp] theorem State.enterStopped_capture (s : State) : (s.enterStopped).capture = s.capture := by
  unfold State.enterStopped; simp
@[simp] theorem State.enterStopped_peers (s : State) : (s.enterStopped).peers = s.peers := by
  unfold State.enterStopped; simp
@[simp] theorem State.enterStopped_fusion (s : State) : (s.enterStopped).fusion = s.fusion := by
  unfold State.enterStopped; simp
@[simp] theorem State.enterStopped_profile (s : State) : (s.enterStopped).profile = s.profile := by
  unfold State.enterStopped; simp
@[simp] theorem State.enterStopped_valves (s : State) : (s.enterStopped).valves = s.valves := by
  unfold State.enterStopped; simp

@[simp] theorem State.captureStop_pending (s : State) (k : FaultKind) (c : Option FrameClass) (o : Option Ident) (l : Bool) : (s.captureStop k c o l).pending = s.pending := by
  unfold State.captureStop; dsimp only; split <;> split <;> simp
@[simp] theorem State.captureStop_now (s : State) (k : FaultKind) (c : Option FrameClass) (o : Option Ident) (l : Bool) : (s.captureStop k c o l).now = s.now := by
  unfold State.captureStop; dsimp only; split <;> split <;> simp
@[simp] theorem State.captureStop_role (s : State) (k : FaultKind) (c : Option FrameClass) (o : Option Ident) (l : Bool) : (s.captureStop k c o l).role = s.role := by
  unfold State.captureStop; dsimp only; split <;> split <;> simp
@[simp] theorem State.captureStop_identity (s : State) (k : FaultKind) (c : Option FrameClass) (o : Option Ident) (l : Bool) : (s.captureStop k c o l).identity = s.identity := by
  unfold State.captureStop; dsimp only; split <;> split <;> simp
@[simp] theorem State.captureStop_phase (s : State) (k : FaultKind) (c : Option FrameClass) (o : Option Ident) (l : Bool) : (s.captureStop k c o l).phase = s.phase := by
  unfold State.captureStop; dsimp only; split <;> split <;> simp
@[simp] theorem State.captureStop_settings (s : State) (k : FaultKind) (c : Option FrameClass) (o : Option Ident) (l : Bool) : (s.captureStop k c o l).settings = s.settings := by
  unfold State.captureStop; dsimp only; split <;> split <;> simp
@[simp] theorem State.captureStop_capture (s : State) (k : FaultKind) (c : Option FrameClass) (o : Option Ident) (l : Bool) : (s.captureStop k c o l).capture = s.capture := by
  unfold State.captureStop; dsimp only; split <;> split <;> simp
@[simp] theorem State.captureStop_peers (s : State) (k : FaultKind) (c : Option FrameClass) (o : Option Ident) (l : Bool) : (s.captureStop k c o l).peers = s.peers := by
  unfold State.captureStop; dsimp only; split <;> split <;> simp
@[simp] theorem State.captureStop_fusion (s : State) (k : FaultKind) (c : Option FrameClass) (o : Option Ident) (l : Bool) : (s.captureStop k c o l).fusion = s.fusion := by
  unfold State.captureStop; dsimp only; split <;> split <;> simp
@[simp] theorem State.captureStop_profile (s : State) (k : FaultKind) (c : Option FrameClass) (o : Option Ident) (l : Bool) : (s.captureStop k c o l).profile = s.profile := by
  unfold State.captureStop; dsimp only; split <;> split <;> simp
@[simp] theorem State.captureStop_valves (s : State) (k : FaultKind) (c : Option FrameClass) (o : Option Ident) (l : Bool) : (s.captureStop k c o l).valves = s.valves := by
  unfold State.captureStop; dsimp only; split <;> split <;> simp

/-! ### What the operations do -/

/-- Activation keeps the stem state. -/
@[simp] theorem State.activate_stem_state (s : State) : s.activate.stem.state = s.stem.state := by
  unfold State.activate
  split
  · split
    · rfl
    · split
      · rfl
      · unfold State.judgePassed State.placeHandshake
        split
        · split <;> [rfl; split <;> rfl]
        · rfl
  · rfl

/-- The handshake FIFO after a placement outside SILENT with room (R28). -/
theorem State.placeHandshake_room (s : State) (f : Frame) (h : s.phase ≠ .silent) (hr : s.link.handshake.length < 4) :
    (s.placeHandshake f) = { s with link.handshake := s.link.handshake ++ [⟨f, 0⟩] } := by
  simp [State.placeHandshake, h, Config.fifoDepth, hr]

/-- A placement into a full handshake FIFO is discarded with NOTICE/QUEUE OVERFLOW (R28). -/
theorem State.placeHandshake_full (s : State) (f : Frame) (h : s.phase ≠ .silent) (hr : 4 ≤ s.link.handshake.length) :
    (s.placeHandshake f) = s.report .queueOverflow (some f.cls) none := by
  simp [State.placeHandshake, h, Config.fifoDepth, Nat.not_lt.mpr hr]

/-- A placement never makes the handshake FIFO longer than four (R28). -/
theorem State.placeHandshake_length (s : State) (f : Frame) (h : s.link.handshake.length ≤ 4) :
    (s.placeHandshake f).link.handshake.length ≤ 4 := by
  unfold State.placeHandshake
  split
  · exact h
  · split
    · rename_i hr; simp [Config.fifoDepth] at hr ⊢; omega
    · exact h

/-- The observation of a heard frame is its recording and then the block's own handling (R24). -/
theorem State.observeFor_hears (s : State) (t : Nat) (f : RawFrame) (g : State → State)
    (hp : s.phase ≠ .silent) (ho : f.sender = s.identity → s.isOwn f = true)
    (hr : (s.record t f).roleFilter f.cls f.sender = true) : s.observeFor t f (some g) = g (s.record t f) := by
  unfold State.observeFor State.observe
  have hc : ¬ (f.sender = s.identity ∧ s.isOwn f = false) := by
    rintro ⟨h1, h2⟩; simp [ho h1] at h2
  simp [hp, hc, hr]

/-- In SILENT a frame reaches no block (R42). -/
theorem State.observe_silent (s : State) (t : Nat) (f : RawFrame) (rest : Peer → State → State)
    (h : s.phase = .silent) : s.observe t f rest = { s.clock t with link.lineIdle := false } := by
  simp [State.observe, h]

/-- Recording a frame leaves the sender's role as it was. -/
@[simp] theorem Peer.heard_role (p : Peer) (now : Nat) (n : Nat) (c : FrameClass) : (p.heard now n c).role = p.role := by
  unfold Peer.heard Peer.rebaseline; dsimp only; split <;> split <;> split <;> rfl

/-- Recording a frame leaves the CONFLICT mark as it was. -/
@[simp] theorem Peer.heard_conflict (p : Peer) (now : Nat) (n : Nat) (c : FrameClass) :
    (p.heard now n c).conflict = p.conflict := by
  unfold Peer.heard Peer.rebaseline; dsimp only; split <;> split <;> split <;> rfl

/-- Recording a frame leaves the role filter's judgement of its sender as it was. -/
@[simp] theorem State.record_roleFilter (s : State) (t : Nat) (f : RawFrame) (c : FrameClass) :
    (s.record t f).roleFilter c f.sender = s.roleFilter c f.sender := by
  simp [State.roleFilter]

/-- P after a move stays in its range (R53). -/
theorem clampInt_range (lo hi v : Int) (h : lo ≤ hi) : lo ≤ clampInt lo hi v ∧ clampInt lo hi v ≤ hi := by
  unfold clampInt; split
  · exact ⟨Int.le_refl _, h⟩
  · split
    · exact ⟨h, Int.le_refl _⟩
    · omega

/-- The ring never holds more than four entries (R64). -/
theorem pushRing_length (ring : List RingEntry) (e : RingEntry) : (pushRing ring e).length ≤ 4 := by
  simp [pushRing, Config.ringDepth]; omega

/-- A saturating count never exceeds 255. -/
theorem satAdd_le (n k : Nat) : satAdd n k ≤ 255 := Nat.min_le_left _ _

/-- Idempotence of the channels' following: a second bringing up to date changes nothing. -/
theorem Channel.follow_follow (c : Channel) (b : Bool) (now : Nat) (d : Int) :
    (c.follow b now d).follow b now d = c.follow b now d := by
  cases b with
  | false => rfl
  | true => cases h : c.side <;> simp [Channel.follow, Channel.switchOff, h]

end Sys2Proof.Machine
end

