-- ==== Sys2Proof/WellFormed.lean ====
section
/-! DEFINITION. Which commands are well formed. A command's operand types already hold most of it; what is left is
OTHER_FRAME_OBSERVED, which stands only for a frame that no row of its own stands for, with a length that its class admits
(R19, R24). -/

namespace Sys2Proof

/-- Whether OTHER_FRAME_OBSERVED stands for a frame of this class and payload: LOG RECORD, FAULT NOTICE, ANSWER, the classes
29 to 31, and the CAL and QUERY frames whose field or item code names no row (2.6, R168). -/
def otherFrameOk (c : FrameClass) (payload : List Byte) : Bool :=
  match c with
  | .logRecord => payload.length == 15
  | .faultNotice => payload.length == 13
  | .answer => 2 ≤ payload.length && payload.length ≤ 16
  | .class29 | .class30 | .class31 => payload.length ≤ 16
  | .cal =>
    match payload with
    | [_, k, _, _] => k != 0 && k != 1
    | _ => false
  | .query =>
    match payload with
    | [_, item, _] => item == 0 || 8 ≤ item.toNat
    | _ => false
  | _ => false

/-- Whether a command is well formed. -/
def Instr.wellFormed : Instr → Bool
  | .otherFrameObserved _ _ c payload => otherFrameOk c payload
  | _ => true

end Sys2Proof
end

