-- ==== Sys2Proof/Laws/PerInstr.lean ====
section
/-! SUPPORT. A law made per command: the frame a well-formed command observes has a length its class admits and is read back,
field by field, as that command (R19, R24, 2.6). -/

namespace Sys2Proof.Laws

open Sys2Proof.Machine

/-- The number two bytes put together stand for. -/
theorem append8 (a b : BitVec 8) : (a ++ b).toNat = a.toNat * 256 + b.toNat := by
  rw [BitVec.toNat_append, ← Nat.shiftLeft_add_eq_or_of_lt b.isLt, Nat.shiftLeft_eq]

/-- The number two two-byte fields put together stand for. -/
theorem append16 (a b : BitVec 16) : (a ++ b).toNat = a.toNat * 65536 + b.toNat := by
  rw [BitVec.toNat_append, ← Nat.shiftLeft_add_eq_or_of_lt b.isLt, Nat.shiftLeft_eq]

/-- A two-byte field is read back as it was written (R19). -/
theorem ofLe16_le16 (h : Half) : ofLe16 (h.setWidth 8) ((h >>> 8).setWidth 8) = h := by
  apply BitVec.eq_of_toNat_eq
  refine (append8 _ _).trans ?_
  simp only [BitVec.toNat_setWidth, BitVec.toNat_ushiftRight, Nat.shiftRight_eq_div_pow]
  have := h.isLt
  omega

/-- A four-byte field is read back as it was written (R19). -/
theorem ofLe32_le32 (w : Word) :
    ofLe32 (w.setWidth 8) ((w >>> 8).setWidth 8) ((w >>> 16).setWidth 8) ((w >>> 24).setWidth 8) = w := by
  apply BitVec.eq_of_toNat_eq
  refine (append16 _ _).trans ?_
  refine (congrArg₂ (· * 65536 + ·) (append8 _ _) (append8 _ _)).trans ?_
  simp only [BitVec.toNat_setWidth, BitVec.toNat_ushiftRight, Nat.shiftRight_eq_div_pow]
  have := w.isLt
  omega

/-- The frame a well-formed command observes has a length its class admits, and it is read back as that command. -/
def FrameFields.Statement (i : Instr) : Prop :=
  i.wellFormed = true → ∀ f, observedFrame i = some f →
    lengthOk f.cls f.payload.length = true ∧ f.command (Instr.time i) = i

theorem FrameFields.reset (pins : Pins) :
    FrameFields.Statement (.reset pins) := by
  intro _ _ h; cases h

theorem FrameFields.quadratureTransition (t : Nat) (channel : Fin 3) (line1 line2 : Bool) :
    FrameFields.Statement (.quadratureTransition t channel line1 line2) := by
  intro _ _ h; cases h

theorem FrameFields.chainRisingEdge (t : Nat) :
    FrameFields.Statement (.chainRisingEdge t) := by
  intro _ _ h; cases h

theorem FrameFields.chainPeriodExpiry (t : Nat) :
    FrameFields.Statement (.chainPeriodExpiry t) := by
  intro _ _ h; cases h

theorem FrameFields.gateBlockEdge (t : Nat) :
    FrameFields.Statement (.gateBlockEdge t) := by
  intro _ _ h; cases h

theorem FrameFields.gateClearEdge (t : Nat) :
    FrameFields.Statement (.gateClearEdge t) := by
  intro _ _ h; cases h

theorem FrameFields.stopLineAssertion (t : Nat) :
    FrameFields.Statement (.stopLineAssertion t) := by
  intro _ _ h; cases h

theorem FrameFields.stopLineInactive (t : Nat) :
    FrameFields.Statement (.stopLineInactive t) := by
  intro _ _ h; cases h

theorem FrameFields.sampleInstant (t : Nat) (an0 an1 an2 an3 : Raw) :
    FrameFields.Statement (.sampleInstant t an0 an1 an2 an3) := by
  intro _ _ h; cases h

theorem FrameFields.pwmPeriodBoundary (t : Nat) (cs0 cs1 cs2 cs3 : Raw) :
    FrameFields.Statement (.pwmPeriodBoundary t cs0 cs1 cs2 cs3) := by
  intro _ _ h; cases h

theorem FrameFields.lineIdle (t : Nat) :
    FrameFields.Statement (.lineIdle t) := by
  intro _ _ h; cases h

theorem FrameFields.arbitrationLost (t : Nat) :
    FrameFields.Statement (.arbitrationLost t) := by
  intro _ _ h; cases h

theorem FrameFields.frameDisturbed (t : Nat) :
    FrameFields.Statement (.frameDisturbed t) := by
  intro _ _ h; cases h

theorem FrameFields.transmitComplete (t : Nat) :
    FrameFields.Statement (.transmitComplete t) := by
  intro _ _ h; cases h

theorem FrameFields.linkCheckFail (t : Nat) (why : CheckFailure) :
    FrameFields.Statement (.linkCheckFail t why) := by
  intro _ _ h; cases h

theorem FrameFields.keepAliveExpiry (t : Nat) :
    FrameFields.Statement (.keepAliveExpiry t) := by
  intro _ _ h; cases h

theorem FrameFields.peerSilenceTimeout (t : Nat) (peer : Ident) :
    FrameFields.Statement (.peerSilenceTimeout t peer) := by
  intro _ _ h; cases h

theorem FrameFields.announce (t : Nat) (sender : Ident) (role phase stemState revision : Byte) :
    FrameFields.Statement (.announce t sender role phase stemState revision) := by
  intro _ _ h; cases h; simp [lengthOk, RawFrame.command, Instr.time]

theorem FrameFields.motion (t : Nat) (sender : Ident) (seq : Byte) (total : Word) (contact : Byte) :
    FrameFields.Statement (.motion t sender seq total contact) := by
  intro _ _ h; cases h; simp [lengthOk, RawFrame.command, Instr.time, le32, ofLe32_le32]

theorem FrameFields.roller (t : Nat) (sender : Ident) (seq : Byte) (left right : Word) :
    FrameFields.Statement (.roller t sender seq left right) := by
  intro _ _ h; cases h; simp [lengthOk, RawFrame.command, Instr.time, le32, ofLe32_le32]

theorem FrameFields.gate (t : Nat) (sender : Ident) (seq : Byte) (total : Word) :
    FrameFields.Statement (.gate t sender seq total) := by
  intro _ _ h; cases h; simp [lengthOk, RawFrame.command, Instr.time, le32, ofLe32_le32]

theorem FrameFields.diameter (t : Nat) (sender : Ident) (mm : Half) :
    FrameFields.Statement (.diameter t sender mm) := by
  intro _ _ h; cases h; simp [lengthOk, RawFrame.command, Instr.time, le16, ofLe16_le16]

theorem FrameFields.diameterAged (t : Nat) (source : DiameterSource) :
    FrameFields.Statement (.diameterAged t source) := by
  intro _ _ h; cases h

theorem FrameFields.closingTimerExpiry (t : Nat) :
    FrameFields.Statement (.closingTimerExpiry t) := by
  intro _ _ h; cases h

theorem FrameFields.stopNotice (t : Nat) (sender : Ident) (kind : Byte) (serial : Half) :
    FrameFields.Statement (.stopNotice t sender kind serial) := by
  intro _ _ h; cases h; simp [lengthOk, RawFrame.command, Instr.time, le16, ofLe16_le16]

theorem FrameFields.releasePrepare (t : Nat) (sender : Ident) :
    FrameFields.Statement (.releasePrepare t sender) := by
  intro _ _ h; cases h; simp [lengthOk, RawFrame.command, Instr.time]

theorem FrameFields.releaseArmingExpiry (t : Nat) :
    FrameFields.Statement (.releaseArmingExpiry t) := by
  intro _ _ h; cases h

theorem FrameFields.releaseConfirm (t : Nat) (sender : Ident) :
    FrameFields.Statement (.releaseConfirm t sender) := by
  intro _ _ h; cases h; simp [lengthOk, RawFrame.command, Instr.time]

theorem FrameFields.holdRequest (t : Nat) (sender : Ident) (serial : Half) (kind index : Byte) :
    FrameFields.Statement (.holdRequest t sender serial kind index) := by
  intro _ _ h; cases h; simp [lengthOk, RawFrame.command, Instr.time, cutBytes, le16, ofLe16_le16]

theorem FrameFields.holdGrant (t : Nat) (sender : Ident) (serial : Half) (kind index : Byte) :
    FrameFields.Statement (.holdGrant t sender serial kind index) := by
  intro _ _ h; cases h; simp [lengthOk, RawFrame.command, Instr.time, cutBytes, le16, ofLe16_le16]

theorem FrameFields.holdRelease (t : Nat) (sender : Ident) (serial : Half) (kind index outcome : Byte) :
    FrameFields.Statement (.holdRelease t sender serial kind index outcome) := by
  intro _ _ h; cases h; simp [lengthOk, RawFrame.command, Instr.time, cutBytes, le16, ofLe16_le16]

theorem FrameFields.cutStart (t : Nat) (sender : Ident) (serial : Half) (kind index attempt : Byte) :
    FrameFields.Statement (.cutStart t sender serial kind index attempt) := by
  intro _ _ h; cases h; simp [lengthOk, RawFrame.command, Instr.time, cutBytes, le16, ofLe16_le16]

theorem FrameFields.cutDone (t : Nat) (sender : Ident) (serial : Half) (kind index : Byte) (pAtCut : Word) :
    FrameFields.Statement (.cutDone t sender serial kind index pAtCut) := by
  intro _ _ h; cases h; simp [lengthOk, RawFrame.command, Instr.time, cutBytes, le16, le32, ofLe16_le16, ofLe32_le32]

theorem FrameFields.halted (t : Nat) (sender : Ident) (serial : Half) (index : Byte) (p : Word) (offsize : Byte) :
    FrameFields.Statement (.halted t sender serial index p offsize) := by
  intro _ _ h; cases h; simp [lengthOk, RawFrame.command, Instr.time, le16, le32, ofLe16_le16, ofLe32_le32]

theorem FrameFields.orderReject (t : Nat) (sender : Ident) (serial : Half) (index reason : Byte) :
    FrameFields.Statement (.orderReject t sender serial index reason) := by
  intro _ _ h; cases h; simp [lengthOk, RawFrame.command, Instr.time, le16, ofLe16_le16]

theorem FrameFields.feedDemand (t : Nat) (sender : Ident) (duty : Half) :
    FrameFields.Statement (.feedDemand t sender duty) := by
  intro _ _ h; cases h; simp [lengthOk, RawFrame.command, Instr.time, le16, ofLe16_le16]

theorem FrameFields.manualExpiry (t : Nat) :
    FrameFields.Statement (.manualExpiry t) := by
  intro _ _ h; cases h

theorem FrameFields.feedMode (t : Nat) (sender : Ident) (mode : Byte) :
    FrameFields.Statement (.feedMode t sender mode) := by
  intro _ _ h; cases h; simp [lengthOk, RawFrame.command, Instr.time]

theorem FrameFields.cutCommand (t : Nat) (sender : Ident) (serial : Half) (kind : Byte) :
    FrameFields.Statement (.cutCommand t sender serial kind) := by
  intro _ _ h; cases h; simp [lengthOk, RawFrame.command, Instr.time, le16, ofLe16_le16]

theorem FrameFields.stemOpen (t : Nat) (sender : Ident) (serial : Half) :
    FrameFields.Statement (.stemOpen t sender serial) := by
  intro _ _ h; cases h; simp [lengthOk, RawFrame.command, Instr.time, le16, ofLe16_le16]

theorem FrameFields.stemClose (t : Nat) (sender : Ident) (serial : Half) :
    FrameFields.Statement (.stemClose t sender serial) := by
  intro _ _ h; cases h; simp [lengthOk, RawFrame.command, Instr.time, le16, ofLe16_le16]

theorem FrameFields.order (t : Nat) (sender : Ident) (serial : Half) (index : Byte) (target : Half)
    (tolMinus tolPlus : Byte) (minTop : Half) (grade : Byte) :
    FrameFields.Statement (.order t sender serial index target tolMinus tolPlus minTop grade) := by
  intro _ _ h; cases h; simp [lengthOk, RawFrame.command, Instr.time, le16, ofLe16_le16]

theorem FrameFields.calValue (t : Nat) (sender : Ident) (entry : Byte) (value : Half) :
    FrameFields.Statement (.calValue t sender entry value) := by
  intro _ _ h; cases h; simp [lengthOk, RawFrame.command, Instr.time, le16, ofLe16_le16]

theorem FrameFields.calKey (t : Nat) (sender : Ident) (entry : Byte) (value : Half) :
    FrameFields.Statement (.calKey t sender entry value) := by
  intro _ _ h; cases h; simp [lengthOk, RawFrame.command, Instr.time, le16, ofLe16_le16]

theorem FrameFields.clearFault (t : Nat) (sender : Ident) (addressee : Byte) :
    FrameFields.Statement (.clearFault t sender addressee) := by
  intro _ _ h; cases h; simp [lengthOk, RawFrame.command, Instr.time]

theorem FrameFields.queryStation (t : Nat) (sender : Ident) (addressee index : Byte) :
    FrameFields.Statement (.queryStation t sender addressee index) := by
  intro _ _ h; cases h; simp [lengthOk, RawFrame.command, Instr.time]

theorem FrameFields.queryTrack (t : Nat) (sender : Ident) (addressee index : Byte) :
    FrameFields.Statement (.queryTrack t sender addressee index) := by
  intro _ _ h; cases h; simp [lengthOk, RawFrame.command, Instr.time]

theorem FrameFields.queryFault (t : Nat) (sender : Ident) (addressee index : Byte) :
    FrameFields.Statement (.queryFault t sender addressee index) := by
  intro _ _ h; cases h; simp [lengthOk, RawFrame.command, Instr.time]

theorem FrameFields.queryPeer (t : Nat) (sender : Ident) (addressee index : Byte) :
    FrameFields.Statement (.queryPeer t sender addressee index) := by
  intro _ _ h; cases h; simp [lengthOk, RawFrame.command, Instr.time]

theorem FrameFields.queryOrder (t : Nat) (sender : Ident) (addressee index : Byte) :
    FrameFields.Statement (.queryOrder t sender addressee index) := by
  intro _ _ h; cases h; simp [lengthOk, RawFrame.command, Instr.time]

theorem FrameFields.queryCal (t : Nat) (sender : Ident) (addressee index : Byte) :
    FrameFields.Statement (.queryCal t sender addressee index) := by
  intro _ _ h; cases h; simp [lengthOk, RawFrame.command, Instr.time]

theorem FrameFields.queryLink (t : Nat) (sender : Ident) (addressee index : Byte) :
    FrameFields.Statement (.queryLink t sender addressee index) := by
  intro _ _ h; cases h; simp [lengthOk, RawFrame.command, Instr.time]

theorem FrameFields.setup (t : Nat) (sender : Ident) (addressee item : Byte) (value : Word) :
    FrameFields.Statement (.setup t sender addressee item value) := by
  intro _ _ h; cases h; simp [lengthOk, RawFrame.command, Instr.time, le32, ofLe32_le32]

theorem FrameFields.setupEnd (t : Nat) (sender : Ident) :
    FrameFields.Statement (.setupEnd t sender) := by
  intro _ _ h; cases h; simp [lengthOk, RawFrame.command, Instr.time]

theorem FrameFields.otherFrameObserved (t : Nat) (sender : Ident) (cls : FrameClass) (payload : List Byte) :
    FrameFields.Statement (.otherFrameObserved t sender cls payload) := by
  intro hw f h
  cases h
  cases cls <;> simp only [Instr.wellFormed, otherFrameOk, Bool.false_eq_true] at hw
  case cal =>
    split at hw
    · rename_i e k v0 v1
      simp only [Bool.and_eq_true, bne_iff_ne, ne_eq] at hw
      refine ⟨rfl, ?_⟩
      show (if k = 0 then _ else if k = 1 then _ else _) = _
      rw [if_neg hw.1, if_neg hw.2]
      rfl
    · cases hw
  case query =>
    split at hw
    · rename_i a item x
      simp only [Bool.or_eq_true, beq_iff_eq, decide_eq_true_eq] at hw
      refine ⟨rfl, ?_⟩
      simp only [RawFrame.command, Instr.time]
      rcases hw with rfl | hw
      · rfl
      · split <;> first | omega | rfl
    · cases hw
  all_goals first
    | (refine ⟨by simpa [lengthOk] using hw, ?_⟩
       simp [RawFrame.command, Instr.time])

theorem FrameFields.grantTimerExpiry (t : Nat) :
    FrameFields.Statement (.grantTimerExpiry t) := by
  intro _ _ h; cases h

theorem FrameFields.chainTimerExpiry (t : Nat) :
    FrameFields.Statement (.chainTimerExpiry t) := by
  intro _ _ h; cases h

theorem FrameFields.cutTimerExpiry (t : Nat) :
    FrameFields.Statement (.cutTimerExpiry t) := by
  intro _ _ h; cases h

theorem FrameFields.returnTimerExpiry (t : Nat) :
    FrameFields.Statement (.returnTimerExpiry t) := by
  intro _ _ h; cases h

theorem FrameFields.knifeOpenTimerExpiry (t : Nat) :
    FrameFields.Statement (.knifeOpenTimerExpiry t) := by
  intro _ _ h; cases h

theorem FrameFields.wheelLiftTimerExpiry (t : Nat) :
    FrameFields.Statement (.wheelLiftTimerExpiry t) := by
  intro _ _ h; cases h

end Sys2Proof.Laws
end

