-- ==== Sys2Proof/Tests/Slice0.lean ====
section
/-! SUPPORT. Tests of the model on small states: the well-formedness checks, one effect or two of each command, and states
that meet the hypotheses of the statements in Certificates/Slice0/Obligations.lean. -/

namespace Sys2Proof.Tests

open Sys2Proof.Machine

set_option Elab.async false

/-! ### Stations -/

/-- The pins of a station of a role whose identity is the code of its role. -/
def pinsOf : Role → Pins
  | .feed => ⟨false, false, false, false, false, (false, false), (false, false), (false, false), false, true⟩
  | .measure => ⟨false, true, false, false, true, (false, false), (false, false), (false, false), false, true⟩
  | .knife => ⟨true, false, false, true, false, (false, false), (false, false), (false, false), false, true⟩
  | .saw => ⟨true, true, false, true, true, (false, false), (false, false), (false, false), false, true⟩

/-- A PRESENT entry of a role, in OPERATING, with a baseline. -/
def peerOf (r : PeerRole) : Peer :=
  { Peer.reset with presence := .present, role := r, phase := .operating, lastHeard := some 0, baselinePending := false }

/-- The Peer Table of a station in a whole head: feed 0, measure 1, knife 2, saw 3, cab 4, the station's own entry SELF. -/
def tableOf (r : Role) : Vector Peer 8 :=
  let all : Vector Peer 8 :=
    #v[peerOf (.d226 .feed), peerOf (.d226 .measure), peerOf (.d226 .knife), peerOf (.d226 .saw), peerOf .cab, Peer.reset,
      Peer.reset, Peer.reset]
  all.set (r.code % 8) { peerOf (.d226 r) with presence := .self } (Nat.mod_lt _ (by decide))

/-- A station of a role in OPERATING, in a whole head, without a stem. -/
def station (r : Role) : State :=
  State.refresh
    { State.boot (pinsOf r) [] with
      phase := .operating
      link.announceSlot := none
      peers := tableOf r
      capture.sampleTimer := some 5000
      fusion.closing := some 15000 }

/-- A station with the stem of serial 7 open in a stem state, the track zeroed, and an order of 5 000 mm PENDING at 2. -/
def withStem (r : Role) (m : StemState) : State :=
  State.refresh
    { station r with
      stem.state := m
      stem.serial := 7
      stem.orders := (station r).stem.orders.set 2 (some ⟨5000, 20, 20, 100, 1, .pending⟩)
      fusion.zeroed := true
      profile.fused := 250 }

/-- The same with the order ACTIVE. -/
def withOrder (r : Role) (m : StemState) : State :=
  State.refresh
    { withStem r m with stem.orders := (station r).stem.orders.set 2 (some ⟨5000, 20, 20, 100, 1, .active⟩) }

/-- A station in STOPPED. -/
def stopped (r : Role) : State := State.refresh { station r with safety.output := .stopped }

/-- A SAW station in a handshake state, with the record of an ORDER cut. -/
def sawIn (st : SawState) : State :=
  State.refresh
    { withOrder .saw .cutting with
      stem.returnState := some .atMark
      stem.view := some ⟨.order, some 2, .requested⟩
      saw := ((station .saw).saw.enter st 9000) }

/-- The same with its record. -/
def sawCutting (st : SawState) (attempt : Nat) (cutDone : Bool) : State :=
  State.refresh { sawIn st with saw.record := some ⟨.order, some 2, attempt, some 5000000, false, false, cutDone⟩ }

/-- The state after a command. -/
def after (c : Instr) (s : State) : State :=
  match exec c s with
  | .next u => u
  | .fault _ => s
  | .refused _ => s

/-- A station that has just sent this frame to completion. -/
def sent (f : RawFrame) (s : State) : State := { s with link.ownCompleted := some f }

/-! ### Checks that can be decided -/

theorem settled_of {s : State}
    (h : s.refresh.feed = s.feed ∧ s.refresh.saw = s.saw ∧ s.refresh.valves = s.valves ∧ s.refresh.peers = s.peers ∧
      s.refresh.safety = s.safety) : s.Settled := by
  have e : s.refresh =
      { s with
        feed := s.refresh.feed
        saw := s.refresh.saw
        valves := s.refresh.valves
        peers := s.refresh.peers
        safety := s.refresh.safety } := rfl
  unfold State.Settled
  rw [e, h.1, h.2.1, h.2.2.1, h.2.2.2.1, h.2.2.2.2]

/-- `State.hears` as a Bool. -/
def hearsB (s : State) (c : Instr) : Bool :=
  match observedFrame c with
  | some f =>
    decide (s.phase ≠ .silent) && (!decide (f.sender = s.identity) || s.isOwn f) && s.roleFilter f.cls f.sender
  | none => false

theorem hears_of {s : State} {c : Instr} (h : hearsB s c = true) : s.hears c := by
  unfold hearsB at h
  unfold State.hears
  cases hf : observedFrame c with
  | none => rw [hf] at h; cases h
  | some f =>
    rw [hf] at h
    simp only [Bool.and_eq_true, Bool.or_eq_true, Bool.not_eq_true', decide_eq_true_eq, decide_eq_false_iff_not] at h
    exact ⟨h.1.1, fun e => h.1.2.resolve_left fun n => n e, h.2⟩

theorem hearsWorking_of {s : State} {c : Instr} (h : (decide (s.phase = .operating) && hearsB s c) = true) :
    s.hearsWorking c := by
  simp only [Bool.and_eq_true, decide_eq_true_eq] at h
  exact ⟨h.1, hears_of h.2⟩

theorem hearsInStem_of {s : State} {c : Instr} {n : Half}
    (h : (decide (s.phase = .operating) && hearsB s c && decide (s.stem.state ≠ .noStem) && decide (n = s.stem.serial)) =
      true) : s.hearsInStem c n := by
  simp only [Bool.and_eq_true, decide_eq_true_eq] at h
  exact ⟨⟨h.1.1.1, hears_of h.1.1.2⟩, h.1.2, h.2⟩

/-! ### Well-formed commands -/

/-- Each check refuses a frame that has a row of its own, or a length its class does not admit. -/
theorem test_wellFormed_refuses :
    (Instr.otherFrameObserved 0 1 .motion [0, 0, 0, 0, 0, 0]).wellFormed = false ∧
    (Instr.otherFrameObserved 0 1 .logRecord [0]).wellFormed = false ∧
    (Instr.otherFrameObserved 0 1 .faultNotice [0]).wellFormed = false ∧
    (Instr.otherFrameObserved 0 1 .answer [0]).wellFormed = false ∧
    (Instr.otherFrameObserved 0 1 .answer (List.replicate 17 0)).wellFormed = false ∧
    (Instr.otherFrameObserved 0 1 .class29 (List.replicate 17 0)).wellFormed = false ∧
    (Instr.otherFrameObserved 0 4 .cal [0, 1, 0, 0]).wellFormed = false ∧
    (Instr.otherFrameObserved 0 4 .cal [0, 2, 0]).wellFormed = false ∧
    (Instr.otherFrameObserved 0 4 .query [0, 7, 0]).wellFormed = false ∧
    (Instr.otherFrameObserved 0 4 .query [0, 8]).wellFormed = false := by
  decide

theorem test_wellFormed_takes :
    (Instr.otherFrameObserved 0 1 .class31 []).wellFormed = true ∧
    (Instr.otherFrameObserved 0 1 .answer [2, 0]).wellFormed = true ∧
    (Instr.otherFrameObserved 0 4 .cal [0, 2, 0, 0]).wellFormed = true ∧
    (Instr.otherFrameObserved 0 4 .query [0, 0, 0]).wellFormed = true ∧
    (Instr.otherFrameObserved 0 4 .query [0, 8, 0]).wellFormed = true ∧ (Instr.lineIdle 0).wellFormed = true := by
  decide

/-! ### The line: worked bytes -/

/-- A RELEASE PREPARE of the cab at identity 4 has the key 0x0C and the length 0; its bits come back as it, and a wrong bit as
a failed check. -/
theorem test_line_reads_back :
    (RawFrame.key ⟨.releasePrepare, 4, []⟩ = 0x0C) ∧
    (lineCommand 5 (RawFrame.wire ⟨.releasePrepare, 4, []⟩) = .releasePrepare 5 4) ∧
    (lineCommand 5 (RawFrame.wire ⟨.feedDemand, 4, [0x2C, 0x01]⟩) = .feedDemand 5 4 300) ∧
    (lineCommand 5 (true :: (RawFrame.wire ⟨.releasePrepare, 4, []⟩).tail) = .linkCheckFail 5 .brokenOff) := by
  decide +kernel

/-! ### One effect of each command -/

theorem test_reset :
    (after (.reset (pinsOf .saw)) (station .feed)).role = .saw ∧
    (after (.reset (pinsOf .saw)) (station .feed)).identity = 3 ∧
    (after (.reset (pinsOf .saw)) (station .feed)).phase = .start ∧
    (after (.reset (pinsOf .saw)) (station .feed)).link.announceSlot = some ⟨.announce .saw .start .noStem, 0⟩ := by
  decide +kernel

theorem test_quadratureTransition :
    (after (.quadratureTransition 1 0 true false) (station .feed)).capture.cap0.total = 1 ∧
    (after (.quadratureTransition 1 0 false true) (station .feed)).capture.cap0.total = 0xFFFFFFFF ∧
    (after (.quadratureTransition 1 0 true true) (station .feed)).capture.cap0.total = 0 ∧
    (after (.quadratureTransition 1 2 true false) (station .feed)).capture.cap2.total = 0 := by
  decide +kernel

theorem test_chainRisingEdge :
    (after (.chainRisingEdge 400) (after (.chainRisingEdge 100) (station .saw))).saw.lastPeriod = some 300 ∧
    (after (.chainRisingEdge 400) (after (.chainRisingEdge 100) (sawCutting .spin 1 false))).saw.state = .down := by
  decide +kernel

theorem test_chainPeriodExpiry :
    (after (.chainPeriodExpiry 0) (after (.chainRisingEdge 400) (after (.chainRisingEdge 100) (station .saw)))).capture.cap2.period
      = none := by
  decide +kernel

theorem test_gateEdges :
    (after (.gateBlockEdge 1) (station .measure)).link.gateSlot = some ⟨.gate 0 0, 0⟩ ∧
    (after (.gateClearEdge 2) (after (.gateBlockEdge 1) (station .measure))).capture.gateBlocked = false ∧
    (after (.gateBlockEdge 1) (station .knife)).link.gateSlot = none := by
  decide +kernel

theorem test_stopLine :
    (after (.stopLineAssertion 1) (station .feed)).safety.output = .stopped ∧
    (after (.stopLineAssertion 1) (station .feed)).safety.record.kind = some .stopLine ∧
    (after (.stopLineAssertion 1) State.reset).safety.output = .run ∧
    (after (.stopLineInactive 2) (after (.stopLineAssertion 1) (station .feed))).safety.output = .stopped := by
  decide +kernel

theorem test_sampleInstant :
    (after (.sampleInstant 0 1000 0 0 0) (station .feed)).capture.ownDiameter = 186 ∧
    (after (.sampleInstant 0 0 1300 0 0) (station .measure)).link.motionSlot = some ⟨.motion 0 0 true, 0⟩ ∧
    (after (.sampleInstant 0 0 0 0 3000) (station .saw)).capture.barHome = false := by
  decide +kernel

theorem test_pwmPeriodBoundary :
    let s := after (.feedDemand 1 4 500) (station .feed)
    (after (.pwmPeriodBoundary 2000 0 0 0 0) s).valves.channels[0].side = some .a ∧
    (after (.pwmPeriodBoundary 2000 0 0 0 0) s).valves.channels[0].active = 500 ∧
    onTimeUs 500 2 = 1000 := by
  decide +kernel

theorem test_lineIdle_and_arbitrationLost :
    let s := after (.gateBlockEdge 1) (station .measure)
    (after (.lineIdle 2) s).link.onLine = some (.gate, ⟨.gate 0 0, 0⟩) ∧ (after (.lineIdle 2) s).link.gateSlot = none ∧
    (after (.arbitrationLost 3) (after (.lineIdle 2) s)).link.gateSlot = some ⟨.gate 0 0, 0⟩ := by
  decide +kernel

theorem test_frameDisturbed_and_transmitComplete :
    let s := after (.lineIdle 2) (after (.gateBlockEdge 1) (station .measure))
    (after (.frameDisturbed 3) s).link.gateSlot = some ⟨.gate 0 0, 1⟩ ∧ (after (.frameDisturbed 3) s).link.txFailures = 1 ∧
    (after (.transmitComplete 3) s).link.onLine = none ∧
    (after (.gate 4 1 0 0) (after (.transmitComplete 3) s)).safety.output = .run ∧
    (after (.gate 4 1 0 0) s).phase = .silent := by
  decide +kernel

theorem test_linkCheckFail :
    (after (.linkCheckFail 1 .checkWord) (station .knife)).link.checkFailures = 1 ∧
    (after (.linkCheckFail 1 .checkWord) (station .knife)).safety.record.kind = some .linkCheck := by
  decide +kernel

theorem test_keepAliveExpiry :
    (after (.keepAliveExpiry 0) (station .knife)).link.announceSlot = some ⟨.announce .knife .operating .noStem, 0⟩ ∧
    (after (.keepAliveExpiry 0) (station .knife)).link.keepAlive = some 60000 := by
  decide +kernel

theorem test_peerSilenceTimeout :
    (after (.peerSilenceTimeout 0 1) (station .feed)).peers[1].presence = .lost ∧
    (after (.peerSilenceTimeout 0 1) (station .feed)).now = 60000 := by
  decide +kernel

theorem test_announce :
    (after (.announce 9 5 1 0 0 1) (station .feed)).peers[5].presence = .present ∧
    (after (.announce 9 5 1 0 0 1) (station .feed)).peers[5].conflict = true ∧
    (after (.announce 9 5 1 0 0 1) (station .feed)).safety.record.kind = some .roleConflict := by
  decide +kernel

theorem test_motion :
    (after (.motion 9 1 1 100 1) (withStem .feed .running)).fusion.p = 61400 ∧
    (after (.motion 9 1 1 100 1) (withStem .feed .running)).fusion.verdict = .wheelOnly ∧
    (after (.motion 9 1 1 100 1) (withStem .feed .running)).profile.buckets[0] = some 250 := by
  decide +kernel

theorem test_roller :
    (after (.roller 9 0 1 30 40) (station .knife)).fusion.leftSum = 30 ∧
    (after (.roller 9 0 1 30 40) (station .knife)).fusion.frames = 1 := by
  decide +kernel

theorem test_gate :
    (after (.gate 9 1 1 0) { withStem .feed .running with fusion.p := 145000 }).fusion.p = 150000 ∧
    (after (.gate 9 1 1 0) (withStem .feed .running)).safety.record.kind = some .gateImplausible := by
  decide +kernel

theorem test_diameter :
    (after (.diameter 9 2 300) (station .saw)).profile.fused = 300 ∧
    (after (.diameterAged 0 .feed) (after (.diameter 5000 0 200) (after (.diameter 9 2 300) (station .saw)))).profile.fused
      = 250 := by
  decide +kernel

theorem test_closingTimerExpiry :
    (after (.closingTimerExpiry 0) (station .saw)).fusion.verdict = .empty ∧
    (after (.closingTimerExpiry 0) (after (.roller 9 0 1 30 40) (station .knife))).fusion.verdict = .rollerTimeout := by
  decide +kernel

theorem test_stopNotice :
    (after (.stopNotice 9 3 19 0) (station .feed)).safety.record.kind = some .remoteStop ∧
    (after (.stopNotice 9 3 1 0) (station .feed)).safety.output = .run := by
  decide +kernel

theorem test_release :
    let s := stopped .feed
    (after (.releasePrepare 9 4) s).safety.arming = some 1000009 ∧
    (after (.releaseConfirm 10 4) (after (.releasePrepare 9 4) s)).safety.output = .run ∧
    (after (.releaseArmingExpiry 0) (after (.releasePrepare 9 4) s)).safety.arming = none ∧
    (after (.releaseConfirm 10 4) s).safety.output = .stopped := by
  decide +kernel

theorem test_holdRequest :
    (after (.holdRequest 9 3 7 2 2) (withOrder .feed .atMark)).feed.hold = .yielding ∧
    (after (.holdRequest 9 3 7 2 2) { withOrder .feed .atMark with feed.stoppedCount := 2 }).link.handshake =
      [⟨.holdGrant 7 .order (some 2), 0⟩] := by
  decide +kernel

theorem test_holdGrant :
    (after (.holdGrant 9 0 7 2 2) (withOrder .knife .atMark)).stem.state = .cutting ∧
    (after (.holdGrant 9 0 7 2 2) { sawCutting .requested 1 false with fusion.p := 5000000 }).saw.state = .spin := by
  decide +kernel

theorem test_holdRelease :
    (after (.holdRelease 9 3 7 2 2 0) { withOrder .knife .cutting with stem.returnState := some .atMark }).stem.state =
      .running ∧
    (after (.holdRelease 9 3 7 2 2 1) (withOrder .knife .cutting)).stem.orders[2] =
      some ⟨5000, 20, 20, 100, 1, .interrupted⟩ := by
  decide +kernel

theorem test_cutStart_and_cutDone :
    (after (.cutStart 9 3 7 2 2 1) (withOrder .knife .cutting)).stem.view = some ⟨.order, some 2, .started⟩ ∧
    (after (.cutDone 9 3 7 2 2 0) (withOrder .knife .cutting)).stem.logNumber = 1 ∧
    (after (.cutDone 9 3 7 2 2 0) { withOrder .knife .cutting with fusion.p := 5000000 }).fusion.p = 0 := by
  decide +kernel

theorem test_halted_and_orderReject :
    (after (.halted 9 0 7 2 5000000 0) (withOrder .saw .running)).stem.state = .atMark ∧
    (after (.halted 9 0 7 2 5000000 0) (withOrder .saw .running)).saw.state = .requested ∧
    (after (.orderReject 9 3 7 2 0) (withOrder .feed .atMark)).stem.orders[2] = some ⟨5000, 20, 20, 100, 1, .rejected⟩ := by
  decide +kernel

theorem test_feedDemand_and_manualExpiry :
    (after (.feedDemand 9 4 2000) (station .feed)).feed.feedDuty = 1000 ∧
    (after (.manualExpiry 0) (after (.feedDemand 9 4 2000) (station .feed))).feed.feedDuty = 0 := by
  decide +kernel

theorem test_feedMode :
    (after (.feedMode 9 4 1) (withOrder .feed .running)).feed.mode = .auto ∧
    (after (.feedMode 9 4 1) (station .feed)).safety.record.kind = some .commandRefused := by
  decide +kernel

theorem test_cutCommand :
    (after (.cutCommand 9 4 7 1) (withStem .saw .running)).saw.state = .requested ∧
    (after (.cutCommand 9 4 7 0) (withStem .saw .running)).safety.record.kind = some .commandRefused := by
  decide +kernel

theorem test_stemOpen_and_stemClose :
    (after (.stemOpen 9 4 8) (station .knife)).stem.state = .gripped ∧
    (after (.stemOpen 9 4 8) (withStem .knife .running)).safety.record.kind = some .stemBusy ∧
    (after (.stemClose 9 4 7) (withStem .knife .running)).stem.state = .noStem ∧
    (after (.stemClose 9 4 7) (withStem .knife .cutting)).stem.closePending = true := by
  decide +kernel

theorem test_order :
    (after (.order 9 4 7 0 3000 200 5 100 1) (withOrder .knife .running)).stem.orders[0] =
      some ⟨3000, 100, 5, 100, 1, .pending⟩ ∧
    (after (.order 9 4 7 2 3000 200 5 100 1) (withOrder .knife .running)).safety.record.kind = some .orderRefused := by
  decide +kernel

theorem test_cal :
    (after (.calKey 9 4 3 5) (after (.calValue 8 4 3 0xFE00) (station .knife))).fusion.staged[3] = ⟨5, -500, true⟩ ∧
    (after (.calKey 9 4 3 16) (station .knife)).safety.record.kind = some .settingRefused := by
  decide +kernel

theorem test_clearFault :
    (after (.clearFault 9 4 255) (after (.linkCheckFail 1 .checkWord) (station .knife))).safety.previous = .notice ∧
    (after (.clearFault 9 4 1) (after (.linkCheckFail 1 .checkWord) (station .knife))).safety.previous = .none := by
  decide +kernel

theorem test_queries :
    (after (.queryStation 9 4 2 0) (station .knife)).link.answerSlot =
      some ⟨.answer .station 0 [1, 2, 2, 0, 0, 0, 0, 0, 0, 0, 0, 0, 0], 0⟩ ∧
    (after (.queryTrack 9 4 2 0) (station .knife)).link.answerSlot = some ⟨.answer .track 0 [0, 0, 0, 0, 0, 0], 0⟩ ∧
    (after (.queryFault 9 4 2 0) (station .knife)).link.answerSlot =
      some ⟨.answer .fault 0 [0, 0, 0, 0, 0, 0, 0, 0, 0, 0, 255, 255, 0, 0], 0⟩ ∧
    (after (.queryPeer 9 4 2 1) (station .knife)).link.answerSlot =
      some ⟨.answer .peer 1 [1, 1, 1, 0, 0, 0, 0, 0, 0, 0], 0⟩ := by
  decide +kernel

theorem test_queries_of_order_cal_link :
    (after (.queryOrder 9 4 2 2) (withOrder .knife .running)).link.answerSlot =
      some ⟨.answer .order 2 [2, 0x88, 0x13, 20, 20, 100, 0, 1], 0⟩ ∧
    (after (.queryOrder 9 4 2 12) (withOrder .knife .running)).link.answerSlot = none ∧
    (after (.queryCal 9 4 2 0) (station .knife)).link.answerSlot = some ⟨.answer .cal 0 [0, 0, 0, 0, 0, 0, 0, 0], 0⟩ ∧
    (after (.queryLink 9 4 2 0) (station .knife)).link.answerSlot = some ⟨.answer .link 0 [0, 0], 0⟩ := by
  decide +kernel

theorem test_setup_and_setupEnd :
    let s := { State.reset with peers := tableOf .feed }
    (after (.setup 9 4 0 1 10) s).settings.samplePeriod = 10 ∧ (after (.setup 9 4 0 1 0) s).settings.samplePeriod = 2 ∧
    (after (.setup 9 4 0 44 1) s).safety.record.kind = some .settingRefused ∧
    (after (.setupEnd 9 4) s).phase = .operating ∧ (after (.setupEnd 9 4) s).capture.sampleTimer = some 5009 := by
  decide +kernel

theorem test_otherFrameObserved :
    (after (.otherFrameObserved 9 5 .class29 []) (station .knife)).peers[5].presence = .present := by
  decide +kernel

theorem test_saw_timers :
    (after (.grantTimerExpiry 0) (sawCutting .requested 1 false)).link.handshake =
      [⟨.holdRelease 7 .order (some 2) .abandoned, 0⟩] ∧
    (after (.chainTimerExpiry 0) (sawCutting .spin 1 false)).saw.state = .ret ∧
    (after (.cutTimerExpiry 0) (sawCutting .down 1 false)).saw.state = .ret ∧
    (after (.returnTimerExpiry 0) (sawCutting .ret 1 false)).safety.record.kind = some .barNotHome := by
  decide +kernel

theorem test_valve_timers :
    (after (.stemClose 9 4 7) (withStem .measure .running)).valves.channels[0].presented = -600 ∧
    (after (.wheelLiftTimerExpiry 0) (after (.stemClose 9 4 7) (withStem .measure .running))).valves.channels[0].presented
      = 0 ∧
    (after (.knifeOpenTimerExpiry 0) { withStem .knife .topped with valves.knifeOpen := some 50 }).valves.knifeOpen = none := by
  decide +kernel

/-! ### States that meet the hypotheses of the statements

One theorem per statement that has hypotheses, with a state for each of its clauses. -/

theorem test_meets_StepRunsFrontCommand :
    State.reset.pending = [] ∧ { State.reset with pending := [.lineIdle 0] }.pending = .lineIdle 0 :: [] := by
  decide +kernel

theorem test_meets_EveryCommandCompletes : ∀ pins, Instr.lineIdle 0 ≠ .reset pins := by
  intro pins h; cases h

theorem test_meets_Settled : (station .feed).Settled ∧ State.reset.Settled :=
  ⟨settled_of (by decide +kernel), settled_of (by decide +kernel)⟩

theorem test_meets_FeedDutyFollowsTheState :
    let idle (s : State) := after (.lineIdle 0) s
    (idle (stopped .feed)).role = .feed ∧ (idle State.reset).phase ≠ .operating ∧
    (idle (stopped .feed)).safety.output = .stopped ∧ (idle (stopped .feed)).phase = .operating ∧
    (idle { withStem .feed .running with feed.hold := .yielding }).feed.hold = .yielding ∧
    (idle { withStem .feed .running with feed.hold := .held }).safety.output = .run ∧
    (idle (station .feed)).feed.mode = .manual ∧ (idle (station .feed)).feed.hold = .free ∧
    (idle (after (.feedMode 1 4 1) (withStem .feed .running))).feed.mode = .auto := by
  decide +kernel

theorem test_meets_DutiesAndChannelsFollowTheState :
    (withStem .feed .running).Settled ∧ (withStem .measure .topped).Settled ∧ (withStem .knife .running).Settled ∧
    (sawCutting .down 1 false).Settled ∧ (stopped .knife).Settled :=
  ⟨settled_of (by decide +kernel), settled_of (by decide +kernel), settled_of (by decide +kernel),
    settled_of (by decide +kernel), settled_of (by decide +kernel)⟩

theorem test_meets_CapturesAndPlacementsFollowTheirRules :
    (station .feed).safety.record.severity = .none ∧
    (after (.linkCheckFail 1 .checkWord) (station .feed)).safety.record.severity.code < FaultKind.stopLine.severity.code ∧
    FaultKind.seqGap.severity.code ≤ (after (.linkCheckFail 1 .checkWord) (station .feed)).safety.record.severity.code ∧
    (station .feed).link.handshake.length < 4 ∧
    4 ≤ { (station .feed).link with handshake := List.replicate 4 ⟨.diameter 0, 0⟩ }.handshake.length := by
  decide +kernel

theorem test_meets_RecordingAFrameRenewsItsSender :
    (station .feed).peers[5].presence = .absent ∧
    (after (.peerSilenceTimeout 0 1) (station .feed)).peers[1].presence = .lost ∧
    (station .feed).peers[1].presence = .present ∧ (station .feed).peers[0].presence = .self := by
  decide +kernel

theorem test_meets_StopCapturesEnterStopped :
    (station .feed).safety.output = .run ∧ (stopped .feed).safety.output = .stopped ∧ (station .saw).role = .saw ∧
    { withOrder .feed .cutting with stem.view := some ⟨.order, some 2, .started⟩ }.stem.view =
      some ⟨.order, some 2, .started⟩ ∧ (withOrder .feed .cutting).stem.orders[2] = some ⟨5000, 20, 20, 100, 1, .active⟩ := by
  decide +kernel

theorem test_meets_StemStateChangesReachTheBlocks :
    (sawCutting .requested 1 false).saw.state = .requested ∧
    (after (.feedMode 1 4 1) (withStem .feed .running)).feed.mode = .auto := by
  decide +kernel

theorem test_meets_InputEdgesAreFollowed :
    ((station .feed).chan 0).mode = .quadrature ∧ ((station .saw).chan 2).mode ≠ .quadrature ∧
    (station .measure).role = .measure ∧ (station .measure).capture.gateBlocked = false ∧
    (station .measure).phase = .operating ∧ (State.boot (pinsOf .measure) []).phase ≠ .operating ∧
    (station .knife).role ≠ .measure := by
  decide +kernel

theorem test_meets_ChainEdgesMeasureThePeriodAndStartTheCut :
    let s := after (.chainRisingEdge 100) (sawCutting .spin 1 false)
    (station .saw).capture.cap2.mode = .period ∧ (station .saw).capture.cap2.lastEdge = none ∧
    s.capture.cap2.lastEdge = some 100 ∧ max s.now 500 = 100 + 400 ∧ max s.now 501 = 100 + 401 ∧
    max s.now 10100 = 100 + 10000 ∧ s.saw.state = .spin ∧
    s.saw.record = some ⟨.order, some 2, 1, some 5000000, false, false, false⟩ ∧ s.role = .saw ∧
    s.settings.chainThreshold = 400 ∧ s.link.handshake.length < 4 ∧ (station .feed).capture.cap2.mode ≠ .period := by
  decide +kernel

theorem test_meets_SampleInstantPublishes :
    (station .measure).capture.sampleTimer = some 5000 ∧ State.reset.capture.sampleTimer = none ∧
    (station .feed).feed.mode = .manual ∧ (station .knife).role = .knife := by
  decide +kernel

theorem test_meets_BarFlagsMoveTheSequencer :
    (sawCutting .down 1 false).capture.sampleTimer = some 5000 ∧ (sawCutting .down 1 false).role = .saw ∧
    (sawCutting .down 1 false).phase = .operating ∧
    (3600 : Raw).toNat = (station .saw).settings.barEndThreshold ∧
    (400 : Raw).toNat = (station .saw).settings.barHomeThreshold ∧
    (sawCutting .ret 1 true).saw.record = some ⟨.order, some 2, 1, some 5000000, false, false, true⟩ ∧
    (sawCutting .ret 1 false).settings.cutRetries = 1 ∧
    (sawCutting .ret 2 false).saw.record = some ⟨.order, some 2, 2, some 5000000, false, false, false⟩ ∧
    (sawIn .ret).saw.record = none ∧
    (after (.setupEnd 9 4) { State.boot (pinsOf .saw) [] with peers := tableOf .saw }).saw.firstDelivery = true ∧
    (station .saw).saw.firstDelivery = false := by
  decide +kernel

/-- A FEED station in AUTO on an order of 5 000 mm, at a position and with a stopped count. -/
def approaching (p : Int) (stage : ApproachStage) (stoppedCount : Nat) : State :=
  { withOrder .feed .running with
    fusion.p := p
    feed.mode := .auto
    feed.approachOrder := some 2
    feed.stage := stage
    feed.stoppedCount := stoppedCount }

theorem test_meets_ApproachFollowsTheBands :
    (approaching 0 .approach 0).feed.mode = .auto ∧ (approaching 0 .approach 0).capture.sampleTimer = some 5000 ∧
    (approaching 0 .approach 0).activeIndex = some 2 ∧ (approaching 0 .approach 0).fusion.zeroed = true ∧
    { approaching 0 .approach 0 with feed.approachOrder := none }.feed.approachOrder ≠ some 2 ∧
    { approaching 0 .approach 0 with stem.state := .topped }.stem.state = .topped ∧
    ((400 : Int) * 1000 < 5000 * 1000 - (4599999 : Int)) ∧ (5000 * 1000 - (4600000 : Int) ≤ 400 * 1000) ∧
    ((15 : Int) * 1000 < 5000 * 1000 - (4984999 : Int)) ∧ (5000 * 1000 - (4985000 : Int) ≤ 15 * 1000) ∧
    (5000 * 1000 - (5015001 : Int) < -(15 * 1000)) ∧ (-(15 * 1000) ≤ 5000 * 1000 - (5015000 : Int)) := by
  decide +kernel

theorem test_approach_bands :
    (after (.sampleInstant 0 0 0 0 0) (approaching 4599999 .approach 0)).feed.feedDuty = 1000 ∧
    (after (.sampleInstant 0 0 0 0 0) (approaching 4600000 .approach 0)).feed.feedDuty = 250 ∧
    (after (.sampleInstant 0 0 0 0 0) (approaching 5015001 .approach 0)).feed.feedDuty = -250 ∧
    (after (.sampleInstant 0 0 0 0 0) (approaching 5015000 .approach 0)).feed.stage = .settle := by
  decide +kernel

theorem test_meets_HaltCheckSettlesTheApproach :
    (approaching 5020000 .settle 2).feed.stage = .settle ∧ (approaching 5020000 .settle 2).feed.stoppedCount = 2 ∧
    (approaching 5020000 .settle 1).feed.stoppedCount ≠ 2 ∧ (approaching 5020000 .settle 2).feed.approachOrder = some 2 ∧
    (approaching 5020001 .settle 2).feed.attempts + 1 ≤ (approaching 5020001 .settle 2).settings.haltAttempts ∧
    { approaching 5020001 .settle 2 with feed.attempts := 2 }.settings.haltAttempts < 2 + 1 ∧
    (approaching 5020001 .correct 2).feed.stage = .correct ∧ (approaching 5020001 .wait 2).feed.stage = .wait := by
  decide +kernel

/-- A crossing, CORRECT on both sides of its end, and WAIT; a mark crossed by a stem at rest is judged at once. -/
theorem test_approach_stages :
    let at_ (p : Int) (stage : ApproachStage) (n : Nat) := after (.sampleInstant 0 0 0 0 0) (approaching p stage n)
    (after (.sampleInstant 0 0 0 0 0) { approaching 5200000 .approach 0 with feed.previousD := some 1 }).feed.stage =
      .settle ∧
    (after (.sampleInstant 0 0 0 0 0) { approaching 5200000 .approach 2 with feed.previousD := some 1 }).feed.stage =
      .correct ∧
    (at_ 4979999 .correct 0).feed.feedDuty = 250 ∧ (at_ 4980000 .correct 0).feed.stage = .settle ∧
    (at_ 5020001 .correct 0).feed.stage = .settle ∧ (at_ 5000000 .wait 2).feed.feedDuty = 0 ∧
    (at_ 5000000 .wait 2).link.rollerSlot = some ⟨.roller 0 0 0, 0⟩ := by
  decide +kernel

theorem test_halt_check :
    (after (.sampleInstant 0 0 0 0 0) (approaching 5020000 .settle 2)).link.handshake =
      [⟨.halted 7 (some 2) 5020000 false, 0⟩] ∧
    (after (.sampleInstant 0 0 0 0 0) (approaching 5020001 .settle 2)).feed.direction = .reverse ∧
    (after (.sampleInstant 0 0 0 0 0) { approaching 5020001 .settle 2 with feed.attempts := 2 }).link.handshake =
      [⟨.halted 7 (some 2) 5020001 true, 0⟩] := by
  decide +kernel

theorem test_meets_IdleLineTakesTheLowestClass :
    (after (.gateBlockEdge 1) (station .measure)).link.onLine = none ∧
    (after (.gateBlockEdge 1) (station .measure)).link.head .gate = some ⟨.gate 0 0, 0⟩ ∧
    (TxSource.all.all fun src => (station .measure).link.head src = none) = true ∧
    (station .measure).phase ≠ .silent := by
  decide +kernel

theorem test_meets_FailedFramesReturnOrAreDropped :
    let s := after (.lineIdle 2) (after (.gateBlockEdge 1) (station .measure))
    s.link.onLine = some (.gate, ⟨.gate 0 0, 0⟩) ∧ (station .measure).link.onLine = none ∧
    { s with link.onLine := some (.gate, ⟨.gate 0 0, 31⟩) }.link.onLine = some (.gate, ⟨.gate 0 0, 31⟩) ∧
    32 ≤ 31 + 1 ∧ 30 + 1 < 32 := by
  decide +kernel

theorem test_meets_CompletedFramesLeaveTheirSource :
    (after (.lineIdle 2) (after (.gateBlockEdge 1) (station .measure))).link.onLine = some (.gate, ⟨.gate 0 0, 0⟩) := by
  decide +kernel

theorem test_meets_FailedChecksAndTheKeepAliveTimer :
    (station .knife).link.keepAlive = some 30000 ∧ (station .knife).link.announceSlot = none ∧
    (after (.keepAliveExpiry 0) (station .knife)).link.announceSlot = some ⟨.announce .knife .operating .noStem, 0⟩ ∧
    { station .knife with link.announceSlot := some ⟨.announce .knife .start .noStem, 0⟩ }.link.announceSlot =
      some ⟨.announce .knife .start .noStem, 0⟩ := by
  decide +kernel

theorem test_meets_ReceiversReadWhatSendersWrite :
    lengthOk (RawFrame.cls ⟨.motion, 1, [0, 0, 0, 0, 0, 0]⟩) 6 = true ∧ lengthOk .class31 16 = true ∧
    lengthOk .setupEnd 0 = true := by
  decide

theorem test_meets_SilentPeersAreLost :
    (station .feed).peers[3].presence = .present ∧ (station .feed).peers[3].lastHeard = some 0 ∧
    (station .feed).peers[3].role = .d226 .saw ∧ (station .feed).peers[3].conflict = false ∧
    { withStem .feed .running with feed.hold := .held }.feed.hold ≠ .free := by
  decide +kernel

theorem test_meets_AnnounceSetsTheEntry :
    (5 : Ident) ≠ (station .feed).identity ∧ (station .feed).peers[5].presence ≠ .self ∧
    (station .feed).peers[5].presence = .absent ∧ (station .feed).peers[1].presence = .present ∧
    (station .feed).peers[1].phase = .operating ∧ PeerRole.ofCode 4 = some .cab ∧ Phase.ofAnnounce 1 = some .operating ∧
    Phase.ofAnnounce 0 = some .start ∧ StemState.ofCode 5 = some .topped := by
  decide +kernel

theorem test_meets_UnheardFramesReachNoBlock :
    let start := { State.reset with peers := tableOf .feed }
    observedFrame (.otherFrameObserved 9 5 .class29 []) = some ⟨.class29, 5, []⟩ ∧
    (station .knife).roleFilter .feedDemand 1 = false ∧ (station .knife).roleFilter .motion 0 = false ∧
    { station .knife with peers := (tableOf .knife).set 1 { peerOf (.d226 .measure) with conflict := true } }.roleFilter
      .gate 1 = false ∧
    observedFrame (.feedDemand 9 1 5) = some ⟨.feedDemand, 1, [5, 0]⟩ ∧
    (Instr.stemSerial (.stemClose 9 4 7) = some 7 ∧ (station .knife).stem.state = .noStem ∧
      (7 : Half) ≠ { withStem .knife .running with stem.serial := 8 }.stem.serial) ∧
    (Instr.addressee (.clearFault 9 4 7) = some 7 ∧ (7 : Byte).toNat ≠ (station .knife).identity.val ∧
      (7 : Byte).toNat ≠ 255) ∧
    (Instr.codesOk (.holdRequest 9 3 7 2 12) = false ∧ Instr.codesOk (.holdRequest 9 3 7 3 255) = false ∧
      Instr.codesOk (.motion 9 1 1 0 2) = false ∧ Instr.codesOk (.announce 9 5 5 0 0 1) = false ∧
      Instr.codesOk (.stopNotice 9 3 18 0) = false ∧ Instr.codesOk (.stopNotice 9 3 24 0) = false) ∧
    (start.phase = .start ∧ Instr.ignoredInStart (.stemOpen 9 4 7) = true ∧
      Instr.ignoredInStart (.holdRelease 9 3 7 2 2 1) = true ∧ Instr.ignoredInStart (.diameter 9 2 300) = true) ∧
    ((sent ⟨.announce, 2, [2, 1, 0, 1]⟩ (station .knife)).isOwn ⟨.announce, 2, [2, 1, 0, 1]⟩ = true ∧
      (station .knife).identity = 2) ∧
    (after (.gate 4 2 0 0) (station .knife)).phase = .silent := by
  decide +kernel

theorem test_meets_ForeignOwnIdentitySilencesTheStation :
    observedFrame (.gate 4 2 0 0) = some ⟨.gate, 2, [0, 0, 0, 0, 0]⟩ ∧ (station .knife).identity = 2 ∧
    (station .knife).isOwn ⟨.gate, 2, [0, 0, 0, 0, 0]⟩ = false ∧ (station .knife).phase ≠ .silent := by
  decide +kernel

theorem test_meets_MotionStoresABaselineOrClosesTheInterval :
    let start := { State.reset with peers := tableOf .feed }
    (withStem .feed .running).hears (.motion 9 1 1 100 1) ∧ start.hears (.motion 9 1 1 100 0) ∧
    ((withStem .feed .running).heard (.motion 9 1 1 100 1)).peers[1].baselinePending = false ∧ start.phase = .start ∧
    (start.heard (.motion 9 1 1 100 0)).peers[1].baselinePending = false ∧
    ({ withStem .feed .running with
        peers := (tableOf .feed).set 1 { peerOf (.d226 .measure) with baselinePending := true } }.heard
      (.motion 9 1 1 100 0)).peers[1].baselinePending = true ∧ (1 : Byte).toNat ≤ 1 ∧
    (after (.roller 9 0 1 30 40) (withStem .knife .running)).fusion.frames ≠ 0 ∧
    (withStem .feed .running).fusion.frames = 0 :=
  ⟨hears_of (by decide +kernel), hears_of (by decide +kernel), by decide +kernel⟩

/-- The sixteenth non-wheel interval on a live track is told once; a P beyond its range is clamped and told; a missed number
is counted and told; in START nothing closes. -/
theorem test_motion_faults :
    let s := { withStem .knife .running with fusion.frames := 1, fusion.nonWheelRun := 15 }
    (after (.motion 9 1 1 0 0) s).safety.record.kind = some .trackDegraded ∧
    (after (.motion 9 1 1 0 0) { s with fusion.degradedReported := true }).safety.record.kind = none ∧
    (after (.motion 9 1 1 100 1) { withStem .knife .running with fusion.p := 40000000 }).safety.record.kind =
      some .positionClamped ∧
    (after (.motion 9 1 3 0 1)
      { station .knife with peers := (tableOf .knife).set 1 { peerOf (.d226 .measure) with motionSeq := some 1 } }
      ).safety.record.kind = some .seqGap ∧
    (after (.motion 9 1 1 100 1) { State.reset with peers := tableOf .feed }).fusion = Fusion.reset := by
  decide +kernel

theorem test_meets_RollersAccumulate :
    let own := ⟨.roller, 0, [1, 0, 0, 0, 0, 0, 0, 0, 0]⟩
    let yielding : State :=
      sent own
        { withStem .feed .running with
          feed.hold := .yielding, feed.holdRecord := some ⟨.trim, none⟩, feed.stoppedCount := 1 }
    (station .knife).hears (.roller 9 0 1 30 40) ∧ yielding.hears (.roller 9 0 1 0 0) ∧
    (sent own { State.reset with peers := tableOf .feed }).hears (.roller 9 0 1 0 0) ∧
    (yielding.heard (.roller 9 0 1 0 0)).peers[0].baselinePending = false ∧ yielding.phase = .operating ∧
    yielding.feed.holdRecord = some ⟨.trim, none⟩ ∧ min 2 (yielding.feed.stoppedCount + 1) = 2 ∧
    (station .feed).feed.hold ≠ .yielding :=
  ⟨hears_of (by decide +kernel), hears_of (by decide +kernel), hears_of (by decide +kernel), by decide +kernel⟩

theorem test_meets_GateCorrectsTheTrackOnce :
    let s := withStem .feed .running
    s.hears (.gate 9 1 1 0) ∧ { State.reset with peers := tableOf .feed }.hears (.gate 9 1 1 0) ∧
    s.phase = .operating ∧ s.fusion.zeroed = true ∧ s.stem.state = .running ∧ s.fusion.gateUsed = false ∧
    (s.heard (.gate 9 1 1 0)).peers[1].baselinePending = false ∧ s.settings.gateOffset = 150 ∧
    s.settings.gateWindow = 40 ∧ s.fusion.p = 0 ∧ ((150 : Int) * 1000 - 110000).natAbs ≤ 40 * 1000 ∧
    40 * 1000 < ((150 : Int) * 1000 - 109999).natAbs :=
  ⟨hears_of (by decide +kernel), hears_of (by decide +kernel), by decide +kernel⟩

/-- At the two ends of the gate window, and beyond the range of P with a credit that meets the offset. -/
theorem test_gate_window :
    (after (.gate 9 1 1 0) { withStem .feed .running with fusion.p := 110000 }).fusion.p = 150000 ∧
    (after (.gate 9 1 1 0) { withStem .feed .running with fusion.p := 109999 }).safety.record.kind =
      some .gateImplausible ∧
    (after (.gate 9 1 1 0)
      { withStem .feed .running with fusion.p := 39999999, fusion.credit := 39889999 }).safety.record.kind =
      some .positionClamped := by
  decide +kernel

theorem test_meets_ClosingTimerClosesTheInterval :
    (station .saw).fusion.closing = some 15000 ∧ (station .saw).fusion.frames = 0 ∧
    (station .saw).feed.mode = .manual ∧ (station .saw).fusion.zeroed = false ∧
    (after (.feedMode 1 4 1) (withStem .feed .running)).feed.mode = .auto ∧
    (after (.feedMode 1 4 1) (withStem .feed .running)).fusion.zeroed = true ∧
    (after (.roller 9 0 1 30 40) (station .knife)).fusion.frames ≠ 0 ∧
    8 ≤ min 255 ({ withStem .knife .running with fusion.emptyRun := 7 }.fusion.emptyRun + 1) := by
  decide +kernel

theorem test_meets_CalWritesTheStagedCopy :
    (station .knife).hears (.calValue 9 4 7 5) ∧ (station .knife).hears (.calKey 9 4 7 15) ∧
    (station .knife).hears (.calValue 9 4 8 5) ∧ (station .knife).hears (.calKey 9 4 8 16) :=
  ⟨hears_of (by decide +kernel), hears_of (by decide +kernel), hears_of (by decide +kernel), hears_of (by decide +kernel)⟩

theorem test_meets_CalLookupTakesTheLowestEntry :
    let w : Vector CalEntry 8 := (Vector.replicate 8 CalEntry.reset).set 3 ⟨5, -500, true⟩
    w[3].enabled = true ∧ w[3].key = 5 ∧ calLookup w 5 = -500 ∧ calLookup w 4 = 0 := by
  decide +kernel

theorem test_meets_DiametersAreFused :
    (station .saw).hearsWorking (.diameter 9 2 300) ∧ (station .saw).hearsWorking (.diameter 9 0 300) ∧
    (station .saw).peers[2].role = .d226 .knife ∧ (station .saw).peers[0].role = .d226 .feed ∧
    (after (.diameter 9 2 300) (station .saw)).profile.source .knife = some ⟨300, 9⟩ :=
  ⟨hearsWorking_of (by decide +kernel), hearsWorking_of (by decide +kernel), by decide +kernel⟩

theorem test_meets_ForwardTravelFillsTheProfile :
    (withStem .knife .running).hearsWorking (.motion 9 1 1 100 1) ∧
    ((withStem .knife .running).heard (.motion 9 1 1 100 1)).peers[1].baselinePending = false ∧
    (withStem .knife .running).fusion.closing = some 15000 ∧
    (0 : Int) < 5 ∧ (withStem .knife .running).stem.state = .running ∧
    { withStem .knife .running with profile.fused := 59 }.profile.fused <
      (withStem .knife .running).settings.topDiameter ∧
    (withStem .knife .running).profile.buckets[0] = none ∧
    (after (.motion 9 1 1 100 1) (withStem .knife .running)).profile.buckets[0] = some 250 ∧
    (after (.motion 9 1 1 100 1)
      { withOrder .knife .running with profile.fused := 59, profile.thinTravel := 199999 }).stem.orders[2] =
      some ⟨5000, 20, 20, 100, 1, .abandoned⟩ :=
  ⟨hearsWorking_of (by decide +kernel), by decide +kernel⟩

theorem test_meets_StopsAreCaptured :
    (station .feed).safety.stopAsserted = false ∧ State.reset.phase ≠ .operating ∧
    (after (.stopLineAssertion 1) (station .feed)).safety.stopAsserted = true ∧
    (station .feed).hears (.stopNotice 9 3 19 0) ∧ (station .feed).hears (.stopNotice 9 3 23 0) ∧
    (sent ⟨.stopNotice, 0, [19, 0, 0]⟩ (station .feed)).hears (.stopNotice 9 0 19 0) :=
  ⟨by decide +kernel, by decide +kernel, by decide +kernel, hears_of (by decide +kernel), hears_of (by decide +kernel),
    hears_of (by decide +kernel)⟩

/-- A station in STOPPED whose release is armed until 1 000 000 µs, with a stem in a state. -/
def armed (r : Role) (m : StemState) (back : Option StemState) : State :=
  { withStem r m with stem.returnState := back, safety.output := .stopped, safety.arming := some 1000000 }

theorem test_meets_ReleaseTakesTwoFrames :
    (stopped .feed).hearsWorking (.releasePrepare 9 4) ∧ (station .feed).hearsWorking (.releasePrepare 9 4) ∧
    (armed .feed .cutting (some .topped)).hearsWorking (.releaseConfirm 1000000 4) ∧
    (armed .saw .atMark none).hearsWorking (.releaseConfirm 9 4) ∧
    { State.reset with peers := tableOf .feed }.hears (.releaseConfirm 9 4) ∧
    (max (armed .feed .cutting none).now 1000000 ≤ 1000000 ∧ (armed .saw .atMark none).saw.lastHome = false ∧
      { stopped .feed with safety.stopAsserted := true }.safety.stopAsserted = true) :=
  ⟨hearsWorking_of (by decide +kernel), hearsWorking_of (by decide +kernel), hearsWorking_of (by decide +kernel),
    hearsWorking_of (by decide +kernel), hears_of (by decide +kernel), by decide +kernel⟩

theorem test_meets_ClearFaultEmptiesTheRecord :
    (station .knife).hears (.clearFault 9 4 2) ∧ (station .knife).hears (.clearFault 9 4 255) ∧
    (after (.linkCheckFail 1 .checkWord) (station .knife)).hears (.clearFault 9 4 7) ∧
    (after (.linkCheckFail 1 .checkWord) (station .knife)).safety.record.severity ≠ .none :=
  ⟨hears_of (by decide +kernel), hears_of (by decide +kernel), hears_of (by decide +kernel), by decide +kernel⟩

theorem test_meets_RequestsAndCutStartsMarkTheView :
    (withOrder .feed .atMark).hearsInStem (.holdRequest 9 3 7 2 2) 7 ∧
    (withOrder .knife .cutting).hearsInStem (.cutStart 9 3 7 2 255 1) 7 ∧ CutKind.ofCode 2 = some .order ∧
    OrderIndex.ofCode 11 = some (some 11) ∧ OrderIndex.ofCode 255 = some none ∧
    ((withOrder .feed .atMark).feed.stoppedCount ≠ 2 ∧ (withOrder .feed .atMark).feed.hold = .free) :=
  ⟨hearsInStem_of (by decide +kernel), hearsInStem_of (by decide +kernel), by decide, by decide, by decide,
    by decide +kernel⟩

theorem test_meets_GrantsAreTakenOrAnswered :
    let s := sawCutting .requested 1 false
    (withOrder .knife .atMark).hearsInStem (.holdGrant 9 0 7 2 2) 7 ∧ s.hearsInStem (.holdGrant 9 0 7 2 2) 7 ∧
    (withOrder .saw .running).hearsInStem (.holdGrant 9 0 7 1 255) 7 ∧
    (sawCutting .spin 1 false).hearsInStem (.holdGrant 9 0 7 2 2) 7 ∧
    (s.role = .saw ∧ s.saw.state = .requested ∧
      s.saw.record = some ⟨.order, some 2, 1, some 5000000, false, false, false⟩ ∧
      s.settings.disputeMargin = 20 ∧ s.settings.chainThreshold = 400 ∧ (withOrder .saw .running).saw.state = .idle ∧
      (stopped .saw).safety.output = .stopped) ∧
    ((after (.holdGrant 9 0 7 2 2) { s with stem.state := .atMark, fusion.p := 5020001 }).safety.record.kind =
        some .positionDispute ∧
      (after (.holdGrant 9 0 7 2 2) { s with stem.state := .atMark, fusion.p := 5020000 }).safety.record.kind = none ∧
      (after (.holdGrant 9 0 7 2 2) { s with stem.state := .atMark }).stem.returnState = some .atMark) :=
  ⟨hearsInStem_of (by decide +kernel), hearsInStem_of (by decide +kernel), hearsInStem_of (by decide +kernel),
    hearsInStem_of (by decide +kernel), by decide +kernel⟩

theorem test_meets_HoldReleaseEndsTheHandshake :
    (withOrder .knife .cutting).hearsInStem (.holdRelease 9 3 7 2 2 1) 7 ∧
    (withOrder .knife .gripped).hearsInStem (.holdRelease 9 3 7 0 255 0) 7 ∧
    { withOrder .feed .cutting with stem.closePending := true }.hearsInStem (.holdRelease 9 3 7 2 2 2) 7 ∧
    HoldOutcome.ofCode 2 = some .abandoned :=
  ⟨hearsInStem_of (by decide +kernel), hearsInStem_of (by decide +kernel), hearsInStem_of (by decide +kernel), by decide⟩

theorem test_meets_CutDoneIsTheZeroEvent :
    (withOrder .knife .cutting).hearsInStem (.cutDone 9 3 7 2 2 0) 7 ∧
    (sent ⟨.cutDone, 3, [7, 0, 2, 2, 0, 0, 0, 0]⟩ (sawCutting .ret 1 true)).hearsInStem (.cutDone 9 3 7 2 2 0) 7 ∧
    (((Vector.replicate 400 none).set 3 (some 210) : Vector (Option Nat) 400)[(3 : Fin 400)] = some 210 ∧
      bucketOrBelow ((Vector.replicate 400 none).set 3 (some 210)) 3 = 210 ∧
      bucketOrBelow ((Vector.replicate 400 none).set 3 (some 210)) 2 = 0) :=
  ⟨hearsInStem_of (by decide +kernel), hearsInStem_of (by decide +kernel), by decide +kernel⟩

theorem test_meets_HandshakesStartOnAHaltOrACommand :
    (withOrder .saw .running).hearsInStem (.halted 9 0 7 2 5000000 0) 7 ∧
    (withOrder .saw .running).activeIndex = some 2 ∧ flagOfCode 1 = some true ∧
    (withStem .saw .topped).hearsInStem (.cutCommand 9 4 7 1) 7 ∧
    (withStem .saw .gripped).hearsInStem (.cutCommand 9 4 7 0) 7 ∧
    (withStem .knife .gripped).hearsInStem (.cutCommand 9 4 7 2) 7 :=
  ⟨hearsInStem_of (by decide +kernel), by decide +kernel, by decide, hearsInStem_of (by decide +kernel),
    hearsInStem_of (by decide +kernel), hearsInStem_of (by decide +kernel)⟩

theorem test_meets_OrderRejectActivatesTheNext :
    (withOrder .feed .atMark).hearsInStem (.orderReject 9 3 7 2 1) 7 ∧ OrderIndex.ofCode 2 = some (some 2) ∧
    ((1 : Byte).toNat ≤ 1 ∧ ∀ l : Fin 12, l ≠ 2 → slotIs .active (withOrder .feed .atMark).stem.orders[l] = false) :=
  ⟨hearsInStem_of (by decide +kernel), by decide, by decide +kernel⟩

theorem test_meets_SawTimersEndTheirState :
    (sawCutting .requested 1 false).saw.grantTimer = some 9000 ∧ (sawCutting .spin 1 false).saw.chainTimer = some 9000 ∧
    (sawCutting .down 1 false).saw.cutTimer = some 9000 ∧ (sawCutting .ret 1 false).saw.returnTimer = some 9000 ∧
    (sawCutting .requested 1 false).saw.record = some ⟨.order, some 2, 1, some 5000000, false, false, false⟩ := by
  decide +kernel

theorem test_meets_FeedCommandsSetDemandAndMode :
    (station .feed).hearsWorking (.feedDemand 9 4 2000) ∧ (stopped .feed).hears (.feedDemand 9 4 2000) ∧
    (withStem .feed .running).hearsWorking (.feedMode 9 4 1) ∧ (station .feed).hearsWorking (.feedMode 9 4 0) ∧
    (after (.feedMode 9 4 1) (withStem .feed .running)).feed.mode = .auto :=
  ⟨hearsWorking_of (by decide +kernel), hears_of (by decide +kernel), hearsWorking_of (by decide +kernel),
    hearsWorking_of (by decide +kernel), by decide +kernel⟩

theorem test_meets_StemsOpenFreshAndCloseEmpty :
    (station .knife).hearsWorking (.stemOpen 9 4 8) ∧ (withStem .knife .running).hearsWorking (.stemOpen 9 4 8) ∧
    (withStem .knife .cutting).hearsInStem (.stemClose 9 4 7) 7 ∧
    (withStem .knife .topped).hearsInStem (.stemClose 9 4 7) 7 :=
  ⟨hearsWorking_of (by decide +kernel), hearsWorking_of (by decide +kernel), hearsInStem_of (by decide +kernel),
    hearsInStem_of (by decide +kernel)⟩

theorem test_meets_OrdersAreStoredAndActivated :
    (withOrder .knife .running).hearsInStem (.order 9 4 7 11 30000 200 5 100 1) 7 ∧
    (withOrder .knife .running).hearsInStem (.order 9 4 7 12 299 200 5 100 1) 7 ∧
    (slotIs .pending (withStem .saw .running).stem.orders[2] = true ∧
      ∀ l : Fin 12, slotIs .active (withStem .saw .running).stem.orders[l] = false) ∧
    (5000 : Int) * 1000 + ((withStem .saw .running).settings.reverseLimit : Int) * 1000 < 5300001 :=
  ⟨hearsInStem_of (by decide +kernel), hearsInStem_of (by decide +kernel), by decide +kernel, by decide +kernel⟩

theorem test_meets_QueriesAnswerFromTheState :
    (station .knife).hears (.queryStation 9 4 2 0) ∧ (station .knife).hears (.queryPeer 9 4 255 7) ∧
    (station .knife).hears (.queryOrder 9 4 255 11) ∧ (station .knife).hears (.queryCal 9 4 255 8) ∧
    (station .knife).link.answerSlot = none :=
  ⟨hears_of (by decide +kernel), hears_of (by decide +kernel), hears_of (by decide +kernel), hears_of (by decide +kernel),
    by decide +kernel⟩

theorem test_meets_SettingsAreStoredUntilSetupEnds :
    { State.reset with peers := tableOf .feed }.hears (.setup 9 4 0 43 10) ∧
    (station .feed).hears (.setup 9 4 255 0 10) ∧ { State.reset with peers := tableOf .feed }.hears (.setupEnd 9 4) ∧
    (station .feed).hears (.setupEnd 9 4) ∧ State.reset.phase = .start ∧
    State.reset.link.announceSlot = some ⟨.announce .feed .start .noStem, 0⟩ :=
  ⟨hears_of (by decide +kernel), hears_of (by decide +kernel), hears_of (by decide +kernel), hears_of (by decide +kernel),
    by decide +kernel, by decide +kernel⟩

theorem test_meets_BoundariesLoadTheBuffers :
    let s := after (.pwmPeriodBoundary 2000 0 0 0 0) (after (.feedDemand 1 4 500) (station .feed))
    s.phase = .operating ∧ s.safety.output = .run ∧ s.valves.channels[0].side = some .a ∧
    s.valves.channels[0].buffer = 500 ∧ s.settings.overloadLimit < (4095 : Raw).toNat * 4000 / 4096 ∧
    s.valves.channels[1].buffer = 0 ∧ (stopped .feed).safety.output = .stopped ∧ s.settings.overloadCount = 4 := by
  decide +kernel

/-- The fourth high period latches the channel and is told; forced off, the latch clears; with a dead interval of 0 a change
of sign starts the other side at the same boundary. -/
theorem test_boundary_corners :
    let s := after (.pwmPeriodBoundary 2000 0 0 0 0) (after (.feedDemand 1 4 500) (station .feed))
    let high (n : Nat) : State :=
      { s with valves.channels := s.valves.channels.set 0 { s.valves.channels[0] with overload := n } }
    let latched : Channel := { Channel.reset with latched := true, buffer := 500 }
    (after (.pwmPeriodBoundary 4000 4095 0 0 0) (high 3)).valves.channels[0].latched = true ∧
    (after (.pwmPeriodBoundary 4000 4095 0 0 0) (high 3)).safety.record.kind = some .valveOverload ∧
    (after (.pwmPeriodBoundary 4000 4095 0 0 0) (high 2)).valves.channels[0].overload = 3 ∧
    (after (.pwmPeriodBoundary 4000 0 0 0 0)
      { stopped .feed with valves.channels := (stopped .feed).valves.channels.set 0 latched }).valves.channels[0].latched =
      false ∧
    (after (.pwmPeriodBoundary 4000 0 0 0 0)
      (after (.feedDemand 3 4 (-500)) { s with settings.deadInterval := 0 })).valves.channels[0].side = some .b ∧
    (after (.pwmPeriodBoundary 4000 0 0 0 0) (after (.feedDemand 3 4 (-500)) s)).valves.channels[0].side = none := by
  decide +kernel

theorem test_meets_TimersRunOutOnce :
    (after (.releasePrepare 9 4) (stopped .feed)).safety.arming = some 1000009 ∧
    (after (.feedDemand 9 4 5) (station .feed)).feed.expiry = some 300009 ∧
    { station .knife with valves.knifeOpen := some 50 }.valves.knifeOpen = some 50 ∧
    (after (.stemClose 9 4 7) (withStem .measure .running)).valves.wheelLift = some 500009 ∧
    State.reset.fusion.closing = none ∧ (station .feed).peers[6].presence ≠ .present := by
  decide +kernel

theorem test_meets_invariants :
    (station .saw).OneActive ∧ (station .saw).StoppedIsIdle ∧ (station .saw).SawConsistent ∧ (station .saw).AutoIsReady ∧
    (station .saw).SelfIsOwn ∧ (station .saw).ChannelsSound := by
  refine ⟨?_, ?_, ?_, ?_, ?_, ?_⟩
  · unfold State.OneActive; decide +kernel
  · unfold State.StoppedIsIdle; decide +kernel
  · unfold State.SawConsistent; decide +kernel
  · unfold State.AutoIsReady; decide +kernel
  · unfold State.SelfIsOwn; decide +kernel
  · unfold State.ChannelsSound; decide +kernel

theorem test_meets_more_invariants :
    (station .saw).TrackInRange ∧ (station .saw).QueuesBounded ∧ (station .saw).CountsBounded ∧
    (station .saw).NoStemIsEmpty := by
  refine ⟨?_, ?_, ?_, ?_⟩
  · unfold State.TrackInRange; decide +kernel
  · unfold State.QueuesBounded; decide +kernel
  · unfold State.CountsBounded; decide +kernel
  · have h : (station .saw).profile.buckets = Vector.replicate 400 none := rfl
    refine fun _ => ⟨?_, ?_, ?_, ?_, ?_, ?_, ?_, fun k => by rw [h]; simp, ?_, ?_⟩ <;> decide +kernel

/-- A station gone SILENT keeps the invariant of R177 with its hypothesis met. -/
theorem test_meets_silence :
    (after (.gate 4 2 0 0) (station .knife)).phase = .silent ∧ (station .saw).SilentIsStill ∧
    (after (.gate 4 2 0 0) (station .knife)).SilentIsStill := by
  have h : (station .saw).phase = .operating := by decide +kernel
  refine ⟨by decide +kernel, fun e => ?_, fun _ => ?_⟩
  · rw [h] at e; cases e
  · repeat' apply And.intro
    all_goals decide +kernel

theorem test_meets_StandingStatesAreLeftByTheirCommandsAlone :
    (∀ pins, Instr.lineIdle 0 ≠ .reset pins) ∧ (∀ t i a x v, Instr.lineIdle 0 ≠ .setup t i a x v) ∧
    (∀ t i, Instr.lineIdle 0 ≠ .releaseConfirm t i) ∧ (∀ t i a, Instr.lineIdle 0 ≠ .clearFault t i a) ∧
    (stopped .feed).safety.output = .stopped ∧
    (after (.orderReject 9 3 7 2 0) (withOrder .feed .atMark)).stem.orders[2] =
      some ⟨5000, 20, 20, 100, 1, .rejected⟩ := by
  refine ⟨?_, ?_, ?_, ?_, by decide +kernel, by decide +kernel⟩
  · intro _ h; cases h
  · intro _ _ _ _ _ h; cases h
  · intro _ _ h; cases h
  · intro _ _ _ h; cases h

end Sys2Proof.Tests
end

section
/-! PROOFS. The calibration lookup of the Length Fusion Unit (Chapter 4, R56 and R60). -/

namespace Sys2Proof.Proofs.LengthFusion

open Sys2Proof.Machine

/-- An entry has a class when the lookup may take it: it is enabled and its key is the class (R60). -/
def HasClass (entry : CalEntry) (diameterClass : Nat) : Prop :=
  entry.enabled = true ∧ entry.key = diameterClass

/-- The search of `calLookup` tests for exactly the entries that have the class. -/
theorem lookupTest_iff_hasClass (entry : CalEntry) (k : Nat) :
    (entry.enabled && entry.key == k) = true ↔ HasClass entry k := by
  simp [HasClass]

theorem calLookup_eq_value_of_lowest {table : Vector CalEntry 8} {k : Nat} {e : Fin 8} (hit : HasClass table[e] k)
    (lowest : ∀ e' : Fin 8, e' < e → ¬ HasClass table[e'] k) : calLookup table k = table[e].value := by
  have found : table.toList.find? (fun entry => entry.enabled && entry.key == k) = some table[e] := by
    rw [List.find?_eq_some_iff_getElem]
    refine ⟨(lookupTest_iff_hasClass _ _).mpr hit, e, by simp, by simp, fun j below => ?_⟩
    have miss := lowest ⟨j, below.trans e.isLt⟩ below
    rw [← lookupTest_iff_hasClass] at miss
    simpa [imp_iff_not_or] using miss
  simp only [calLookup, found]

theorem calLookup_eq_zero_of_none {table : Vector CalEntry 8} {k : Nat}
    (absent : ∀ e : Fin 8, ¬ HasClass table[e] k) : calLookup table k = 0 := by
  have notFound : table.toList.find? (fun entry => entry.enabled && entry.key == k) = none := by
    rw [List.find?_eq_none]
    intro entry mem
    obtain ⟨i, bound, rfl⟩ := Vector.mem_iff_getElem.mp (Vector.mem_toList_iff.mp mem)
    rw [lookupTest_iff_hasClass]
    exact absent ⟨i, bound⟩
  simp only [calLookup, notFound]

/-- R56, with the scale in force and the correction the lookup gives for the class as it stands. -/
theorem wheelDistance_eq (s : State) (n : Int) :
    s.wheelDistance n =
      n * s.settings.wheelScale +
        Int.tdiv (n * s.settings.wheelScale * calLookup s.fusion.working s.profile.diameterClass) 10000 := rfl

/-- Settles O32: the search through the table stops at the first entry that has the class, or at none. -/
theorem calLookupTakesTheLowestEntry : Obligations.CalLookupTakesTheLowestEntry := by
  intro s
  exact ⟨fun _ enabled key lowest => calLookup_eq_value_of_lowest ⟨enabled, key⟩ lowest,
    calLookup_eq_zero_of_none, wheelDistance_eq s⟩

end Sys2Proof.Proofs.LengthFusion
end

section
/-! PROOFS. The commanded feed duty (Chapter 7, R110): every command ends by bringing up to date what follows the state,
and the duty that this sets is read off the table line by line. -/

namespace Sys2Proof.Proofs.FeedControl

open Sys2Proof.Machine

/-! ### How every command ends -/

/-- Every command ends in `State.done`: an expiry on both sides of its timer, every other command at its one end. -/
theorem exec_eq_done (c : Instr) (s : State) : ∃ v : State, exec c s = v.done := by
  cases c with
  | chainPeriodExpiry | keepAliveExpiry | releaseArmingExpiry | manualExpiry | grantTimerExpiry | chainTimerExpiry
  | cutTimerExpiry | returnTimerExpiry | knifeOpenTimerExpiry | wheelLiftTimerExpiry | sampleInstant =>
    simp only [exec, execChainPeriodExpiry, execKeepAliveExpiry, execReleaseArmingExpiry, execManualExpiry,
      execGrantTimerExpiry, execChainTimerExpiry, execCutTimerExpiry, execReturnTimerExpiry, execKnifeOpenTimerExpiry,
      execWheelLiftTimerExpiry, execSampleInstant]
    split <;> exact ⟨_, rfl⟩
  | peerSilenceTimeout | diameterAged | closingTimerExpiry =>
    simp only [exec, execPeerSilenceTimeout, execDiameterAged, execClosingTimerExpiry]
    split
    · split <;> exact ⟨_, rfl⟩
    · exact ⟨_, rfl⟩
  | _ => exact ⟨_, rfl⟩

/-- The state a command answers is one just brought up to date. -/
theorem eq_refresh_of_exec {c : Instr} {s u : State} (run : exec c s = .next u) : ∃ v : State, u = v.refresh := by
  obtain ⟨v, ends⟩ := exec_eq_done c s
  rw [run, State.done_eq] at ends
  exact ⟨v, Host.Outcome.next.inj ends⟩

/-! ### What bringing up to date does to the feed duty and the channels -/

@[simp] theorem follow_presented (c : Channel) (forced : Bool) (now : Nat) (duty : Int) :
    (c.follow forced now duty).presented = duty := by
  cases forced <;> rfl

/-- Each channel is presented the duty of its owner (R146). -/
theorem refresh_presented (s : State) (i : Fin 4) : s.refresh.valves.channels[i].presented = s.ownerDuty i := by
  simp [State.refresh]

/-- The commanded duty is the table's for the state brought up to date too: no line of R110's table reads what changes. -/
theorem refresh_feedDuty (s : State) : s.refresh.feed.feedDuty = s.refresh.feedDutyNow := rfl

/-- The owner of valve channel 0 of a FEED station is the Feed Controller (R146). -/
theorem ownerDuty_feed {s : State} (feed : s.role = .feed) : s.ownerDuty 0 = s.feedDutyNow := by
  simp [State.ownerDuty, feed]

/-- A FEED station presents its commanded feed duty to valve channel 0 (R110, R146). -/
theorem refresh_presented_feed {s : State} (feed : s.role = .feed) :
    s.refresh.valves.channels[0].presented = s.refresh.feed.feedDuty :=
  (refresh_presented s 0).trans (ownerDuty_feed feed)

/-! ### The lines of R110's table -/

theorem feedDutyNow_not_operating {s : State} (phase : s.phase ≠ .operating) : s.feedDutyNow = 0 := by
  simp [State.feedDutyNow, phase]

theorem feedDutyNow_stopped {s : State} (stopped : s.safety.output = .stopped) : s.feedDutyNow = 0 := by
  simp [State.feedDutyNow, stopped]

theorem feedDutyNow_held {s : State} (hold : s.feed.hold = .yielding ∨ s.feed.hold = .held) : s.feedDutyNow = 0 := by
  have taken : s.feed.hold ≠ .free := by
    rcases hold with yielding | held
    · simp [yielding]
    · simp [held]
  simp [State.feedDutyNow, taken]

theorem feedDutyNow_manual {s : State} (feed : s.role = .feed) (phase : s.phase = .operating)
    (output : s.safety.output = .run) (free : s.feed.hold = .free) (manual : s.feed.mode = .manual) :
    s.feedDutyNow = s.feed.demand := by
  simp [State.feedDutyNow, feed, phase, output, free, manual]

theorem feedDutyNow_auto {s : State} (feed : s.role = .feed) (phase : s.phase = .operating)
    (output : s.safety.output = .run) (free : s.feed.hold = .free) (auto : s.feed.mode = .auto) :
    s.feedDutyNow = s.feed.approachDuty := by
  simp [State.feedDutyNow, feed, phase, output, free, auto]

/-- Settles O5: a command leaves a state just brought up to date, whose duty is the table's first line that applies. -/
theorem feedDutyFollowsTheState : Obligations.FeedDutyFollowsTheState := by
  intro c s u run feed
  obtain ⟨v, rfl⟩ := eq_refresh_of_exec run
  refine ⟨refresh_presented_feed feed, ?_⟩
  rw [refresh_feedDuty]
  exact ⟨feedDutyNow_not_operating, fun _ => feedDutyNow_stopped, fun _ _ => feedDutyNow_held,
    feedDutyNow_manual feed, feedDutyNow_auto feed⟩

end Sys2Proof.Proofs.FeedControl
end

section
/-! PROOFS. The fault record of the Safety and Fault Unit (Chapter 10): the fault line that follows its severity (R167) and
CLEAR FAULT (R166). -/

namespace Sys2Proof.Proofs.SafetyFault

open Sys2Proof.Machine
open Sys2Proof.Proofs.FeedControl (eq_refresh_of_exec)

/-! ### The fault line (R167) -/

/-- The severities are ordered NONE, NOTICE, DEGRADE, STOP, and the line is asserted for the upper two. -/
theorem faultLineOf_iff (r : FaultRecord) :
    faultLineOf r = true ↔ r.severity = .degrade ∨ r.severity = .stop := by
  unfold faultLineOf
  cases r.severity <;> decide

/-- Settles O7: a command leaves a state just brought up to date, whose fault line is read off its record. -/
theorem faultLineFollowsTheRecord : Obligations.FaultLineFollowsTheRecord := by
  refine ⟨fun c s u run => ?_, rfl⟩
  obtain ⟨v, rfl⟩ := eq_refresh_of_exec run
  rw [State.refresh_faultLine, State.refresh_record]
  exact faultLineOf_iff v.safety.record

/-! ### Clearing the record (R166) -/

theorem clear_of_empty {u : SafetyUnit} (empty : u.record.severity = .none) : u.clear = u :=
  if_pos empty

theorem clear_of_held {u : SafetyUnit} (held : u.record.severity ≠ .none) :
    u.clear = { u with previous := u.record.severity, record := FaultRecord.empty } :=
  if_neg held

/-! ### CLEAR FAULT (R27, R166) -/

theorem addressed_iff {s : State} {addressee : Byte} :
    s.addressed addressee = true ↔ addressee.toNat = s.identity.val ∨ addressee.toNat = 255 := by
  simp [State.addressed]

section ClearFault

variable {t : Nat} {i : Ident} {addressee : Byte} {s : State}

/-- A CLEAR FAULT that is heard: recorded by the Peer Table, and the record cleared where the station is addressed. -/
theorem exec_clearFault_of_hears (hears : s.hears (.clearFault t i addressee)) :
    exec (.clearFault t i addressee) s =
      .next (State.refresh
        (if s.addressed addressee then
          { s.heard (.clearFault t i addressee) with safety := s.safety.clear }
        else s.heard (.clearFault t i addressee))) := by
  obtain ⟨awake, own, role⟩ := hears
  have roleAfter : (s.record t ⟨.clearFault, i, [addressee]⟩).roleFilter .clearFault i = true :=
    (State.record_roleFilter ..).trans role
  have observed := s.observeFor_hears t ⟨.clearFault, i, [addressee]⟩
    (fun s => if s.addressed addressee then { s with safety := s.safety.clear } else s) awake own roleAfter
  exact congrArg State.done observed

theorem exec_clearFault_addressed (hears : s.hears (.clearFault t i addressee))
    (addressed : addressee.toNat = s.identity.val ∨ addressee.toNat = 255) :
    exec (.clearFault t i addressee) s =
      .next (State.refresh { s.heard (.clearFault t i addressee) with safety := s.safety.clear }) := by
  rw [exec_clearFault_of_hears hears, if_pos (addressed_iff.mpr addressed)]

theorem exec_clearFault_not_addressed (hears : s.hears (.clearFault t i addressee))
    (other : ¬ (addressee.toNat = s.identity.val ∨ addressee.toNat = 255)) :
    exec (.clearFault t i addressee) s = .next (s.heard (.clearFault t i addressee)).refresh := by
  rw [exec_clearFault_of_hears hears, if_neg (mt addressed_iff.mp other)]

/-- An empty record: clearing it changes nothing, whoever is addressed. -/
theorem exec_clearFault_empty (hears : s.hears (.clearFault t i addressee))
    (empty : s.safety.record.severity = .none) :
    exec (.clearFault t i addressee) s = .next (s.heard (.clearFault t i addressee)).refresh := by
  by_cases addressed : addressee.toNat = s.identity.val ∨ addressee.toNat = 255
  · rw [exec_clearFault_addressed hears addressed, clear_of_empty empty]
    rfl
  · exact exec_clearFault_not_addressed hears addressed

end ClearFault

/-- Settles O37: a heard CLEAR FAULT that is addressed clears the record, which empties a held one and keeps an empty one;
one addressed to another station is only recorded by the Peer Table, and that recording leaves the fault record alone. -/
theorem clearFaultEmptiesTheRecord : Obligations.ClearFaultEmptiesTheRecord := by
  intro t i addressee s c hears
  refine ⟨fun addressed held => ?_, exec_clearFault_empty hears, fun notOwn notAll => ?_⟩
  · rw [exec_clearFault_addressed hears addressed, clear_of_held held]
    rfl
  · exact exec_clearFault_not_addressed hears (not_or.mpr ⟨notOwn, notAll⟩)

end Sys2Proof.Proofs.SafetyFault
end

section
/-! PROOFS. What a command can do, said once: every command but RESET changes the state by a chain of moves, each a change
of one block (or an entry that several blocks follow) under the guard its rule gives it. An invariant is then checked move by
move, and never command by command. -/

namespace Sys2Proof.Proofs.Effects

open Sys2Proof.Machine

/-! ### What a change of one block keeps -/

/-- A change of the Link Controller keeps the depth of the FIFOs (R28) and the counts (R20, R22) in their bounds. -/
structure LinkKept (l l' : Link) : Prop where
  handshake : l.handshake.length ≤ 4 → l'.handshake.length ≤ 4
  logFifo : l.logFifo.length ≤ 4 → l'.logFifo.length ≤ 4
  checkFailures : l.checkFailures ≤ 255 → l'.checkFailures ≤ 255
  txFailures : l.txFailures ≤ 255 → l'.txFailures ≤ 255

/-- A change of an entry makes no entry SELF, and leaves presence, role and mark of the own entry (R34, R35). -/
structure PeerKept (s : State) (i : Ident) (p : Peer) : Prop where
  self : p.presence = .self → s.peers[i].presence = .self
  own : i = s.identity → s.peers[i].presence = .self →
    p.presence = .self ∧ p.role = s.peers[i].role ∧ p.conflict = s.peers[i].conflict
  gapCount : s.peers[i].gapCount ≤ 255 → p.gapCount ≤ 255

/-- The counts of the track lie within 0 to 255 (R50). -/
def TrackCounted (f : Fusion) : Prop :=
  f.frames ≤ 255 ∧ f.nonWheelRun ≤ 255 ∧ f.emptyRun ≤ 255 ∧ f.logIntervals ≤ 255 ∧ f.logNonWheel ≤ 255

/-- A change of the track keeps its bounds, leaves a zeroed track zeroed, and gives a station without a stem no position. -/
structure TrackKept (s : State) (f : Fusion) : Prop where
  inRange : Config.pMin ≤ s.fusion.p ∧ s.fusion.p ≤ Config.pMax → Config.pMin ≤ f.p ∧ f.p ≤ Config.pMax
  ring : s.fusion.ring.length ≤ 4 → f.ring.length ≤ 4
  counted : TrackCounted s.fusion → TrackCounted f
  zeroed : s.fusion.zeroed = true → f.zeroed = true
  noStem : s.stem.state = .noStem → f.p = s.fusion.p ∧ f.zeroed = s.fusion.zeroed

/-- A change of the profile gives a station without a stem neither thin travel nor a bucket (R84, R87). -/
structure ProfileKept (s : State) (p : Profile) : Prop where
  thinTravel : s.stem.state = .noStem → s.profile.thinTravel = 0 → p.thinTravel = 0
  buckets : s.stem.state = .noStem → (∀ k : Fin 400, s.profile.buckets[k] = none) → ∀ k : Fin 400, p.buckets[k] = none

/-- At most one slot holds an ACTIVE order (R103). -/
def SingleActive (orders : Vector (Option Order) 12) : Prop :=
  ∀ i j : Fin 12, slotIs .active orders[i] = true → slotIs .active orders[j] = true → i = j

/-- An order of a final status keeps its slot (R97, R100 to R103). -/
def FinalKept (orders orders' : Vector (Option Order) 12) : Prop :=
  ∀ (j : Fin 12) (o : Order), orders[j] = some o → o.status ≠ .pending → o.status ≠ .active →
    orders'[j] = some o

theorem FinalKept.refl (orders : Vector (Option Order) 12) : FinalKept orders orders := fun _ _ held _ _ => held

theorem FinalKept.trans {o₁ o₂ o₃ : Vector (Option Order) 12} (h : FinalKept o₁ o₂) (k : FinalKept o₂ o₃) :
    FinalKept o₁ o₃ :=
  fun j o held hp ha => k j o (h j o held hp ha) hp ha

/-- What the Stem and Order Unit holds of no stem: no order, no view, no pending close and no return state. -/
def StemEmpty (u : StemUnit) : Prop :=
  (∀ i : Fin 12, u.orders[i] = none) ∧ u.view = none ∧ u.closePending = false ∧ u.returnState = none

/-- A change of the Stem and Order Unit within a stem state. -/
structure StemKept (s : State) (u : StemUnit) : Prop where
  state : u.state = s.stem.state
  empty : s.stem.state = .noStem → StemEmpty s.stem → StemEmpty u
  active : SingleActive s.stem.orders → SingleActive u.orders
  final : FinalKept s.stem.orders u.orders
  vacant : ∀ j : Fin 12, s.stem.orders[j] = none → u.orders[j] = none
  logNumber : s.stem.logNumber ≤ 255 → u.logNumber ≤ 255

/-- The Feed Controller as a stopped FEED station has it (R124). -/
def FeedIdle (f : Feed) : Prop := f.mode = .manual ∧ f.hold = .free ∧ f.demand = 0 ∧ f.expiry = none

/-- What the entry into AUTO asks for (R111). -/
def ReadyForAuto (s : State) : Prop :=
  s.role = .feed ∧ s.safety.output = .run ∧ s.fusion.zeroed = true ∧ s.stem.state ≠ .noStem ∧ s.stem.state ≠ .topped

/-- A change of the Feed Controller: AUTO is entered where it may be, a stopped FEED station stays idle, and the hold is
taken with a stem open alone. -/
structure FeedKept (s : State) (f : Feed) : Prop where
  auto : f.mode = .auto → s.feed.mode = .auto ∨ ReadyForAuto s
  stopped : s.safety.output = .stopped → s.role = .feed → FeedIdle s.feed → FeedIdle f
  hold : s.stem.state = .noStem → s.feed.hold = .free → f.hold = .free

/-- The record and the timers of the sequencer go with the handshake state that owns them (R127, R128, R129). -/
def SawSound (x : Saw) : Prop :=
  ((x.state = .requested ∨ x.state = .spin ∨ x.state = .down) → x.record ≠ none) ∧
  (x.state = .idle → x.record = none) ∧
  (x.grantTimer ≠ none → x.state = .requested) ∧ (x.chainTimer ≠ none → x.state = .spin) ∧
  (x.cutTimer ≠ none → x.state = .down) ∧ (x.returnTimer ≠ none → x.state = .ret)

/-- The Saw Sequencer as a stopped SAW station has it (R142). -/
def SawIdle (x : Saw) : Prop := x.state = .idle ∧ x.record = none

/-- A change of the Saw Sequencer: it stays sound, requests with a stem open alone, and stays idle in STOPPED. -/
structure SawKept (s : State) (x : Saw) : Prop where
  sound : SawSound s.saw → SawSound x
  requested : s.stem.state = .noStem → s.saw.state ≠ .requested → x.state ≠ .requested
  stopped : s.safety.output = .stopped → s.role = .saw → SawSound s.saw → SawIdle s.saw → SawIdle x

/-! ### The moves -/

/-- One move of a command `c`, of which `q` says whether it may take the station into SILENT. The command matters where a rule
gives a change to one command alone. -/
inductive Move (c : Instr) (q : Prop) : State → State → Prop
  | clock (s : State) (now : Nat) (h : s.now ≤ now) : Move c q s { s with now := now }
  | capture (s : State) (x : Capture) : Move c q s { s with capture := x }
  | link (s : State) (l : Link) (h : LinkKept s.link l) : Move c q s { s with link := l }
  | peer (s : State) (i : Ident) (p : Peer) (h : PeerKept s i p) : Move c q s (s.setPeer i p)
  | track (s : State) (f : Fusion) (h : TrackKept s f) : Move c q s { s with fusion := f }
  /-- The loss of the track takes the mode to MANUAL with it (R71, R112). -/
  | loseTrack (s : State) : Move c q s { s with fusion.zeroed := false, feed := s.feed.toManual }
  | profile (s : State) (p : Profile) (h : ProfileKept s p) : Move c q s { s with profile := p }
  | stem (s : State) (u : StemUnit) (h : StemKept s u) : Move c q s { s with stem := u }
  /-- An empty slot is filled by an ORDER alone, with a PENDING order (R104). -/
  | order (s : State) (t : Nat) (sender : Ident) (serial : Half) (x : Byte) (target : Half) (minus plus : Byte) (top : Half)
      (grade : Byte) (hc : c = .order t sender serial x target minus plus top grade) (i : Fin 12) (o : Order)
      (pending : o.status = .pending) (stem : s.stem.state ≠ .noStem) :
      Move c q s { s with stem.orders := s.stem.orders.set i (some o) }
  | feed (s : State) (f : Feed) (h : FeedKept s f) : Move c q s { s with feed := f }
  | saw (s : State) (x : Saw) (h : SawKept s x) : Move c q s { s with saw := x }
  | valves (s : State) (v : Valves) (h : v.channels = s.valves.channels) : Move c q s { s with valves := v }
  | channel (s : State) (i : Fin 4) (σ : Settings) (now : Nat) (forced : Bool) (current : Nat) :
    Move c q s
      { s with
        valves.channels := s.valves.channels.set i (s.valves.channels[i].boundary σ now forced current).1 }
  | report (s : State) (k : FaultKind) (cls : Option FrameClass) (sender : Option Ident) :
    Move c q s (s.report k cls sender)
  | stopLine (s : State) (b : Bool) : Move c q s { s with safety.stopAsserted := b }
  | disarm (s : State) : Move c q s { s with safety.arming := none }
  | arm (s : State) (due : Nat) (h : s.safety.output ≠ .run) : Move c q s { s with safety.arming := some due }
  /-- The entry into STOPPED, before activation is considered (R159). -/
  | stop (s : State) :
    Move c q s
      { s with
        safety.output := .stopped
        feed := if s.role = .feed then s.feed.stop else s.feed
        saw := if s.role = .saw then s.saw.discard else s.saw
        stem := s.stem.stop }
  /-- RUN is entered by a RELEASE CONFIRM alone (R163). -/
  | release (s : State) (t : Nat) (i : Ident) (hc : c = .releaseConfirm t i) (h : s.safety.arming = none) :
    Move c q s { s with safety.output := .run }
  /-- The record is emptied by a CLEAR FAULT alone (R166). -/
  | clearFault (s : State) (t : Nat) (i : Ident) (a : Byte) (hc : c = .clearFault t i a) :
    Move c q s { s with safety := s.safety.clear }
  /-- A setting is stored by a SETUP alone, in START (R173, R175). -/
  | store (s : State) (t : Nat) (i : Ident) (a item : Byte) (v : Word) (hc : c = .setup t i a item v) (σ : Settings)
    (h : s.settings.put item.toNat v.toNat = some σ) (start : s.phase = .start) : Move c q s { s with settings := σ }
  | enterStem (s : State) (new : StemState) (h : new ≠ .noStem) : Move c q s (s.enterStem new)
  | closeStem (s : State) : Move c q s s.closeStem
  | openStem (s : State) (serial : Half) (h : s.stem.state = .noStem) : Move c q s (s.openStem serial)
  | enterOperating (s : State) (h : s.phase = .start) : Move c q s { s with phase := .operating }
  | enterSilent (s : State) (h : q) : Move c q s s.enterSilent
  | refresh (s : State) : Move c q s s.refresh

/-- A chain of moves. -/
abbrev Moves (c : Instr) (q : Prop) : State → State → Prop := Relation.ReflTransGen (Move c q)

theorem Move.one {c : Instr} {q : Prop} {s u : State} (h : Move c q s u) : Moves c q s u := .single h

theorem Moves.rfl {c : Instr} {q : Prop} {s : State} : Moves c q s s := .refl

variable {c : Instr} {q : Prop}

/-! ### The clock, captures and placements -/

theorem clock_moves (s : State) (t : Nat) : Moves c q s (s.clock t) := (Move.clock s _ (Nat.le_max_left ..)).one

theorem clockDue_moves (s : State) (t due : Nat) : Moves c q s (s.clockDue t due) :=
  (Move.clock s _ ((Nat.le_max_left ..).trans (Nat.le_max_left ..))).one

theorem report_moves (s : State) (k : FaultKind) (cls : Option FrameClass) (sender : Option Ident) :
    Moves c q s (s.report k cls sender) := (Move.report s k cls sender).one

theorem placeHandshake_moves (s : State) (f : Frame) : Moves c q s (s.placeHandshake f) := by
  unfold State.placeHandshake
  split
  · exact .refl
  · split
    · next room =>
      refine (Move.link s { s.link with handshake := s.link.handshake ++ [⟨f, 0⟩] } ⟨fun _ => ?_, id, id, id⟩).one
      exact List.length_append.trans_le room
    · exact report_moves ..

theorem placeLog_moves (s : State) (r : LogRecord) : Moves c q s (s.placeLog r) := by
  unfold State.placeLog
  split
  · exact .refl
  · split
    · next room =>
      refine (Move.link s { s.link with logFifo := s.link.logFifo ++ [⟨.logRecord r, 0⟩] }
        ⟨id, fun _ => ?_, id, id⟩).one
      exact List.length_append.trans_le room
    · exact report_moves ..

/-- A change of the link that touches neither the FIFOs nor the counts. -/
theorem link_moves (s : State) (l : Link) (hs : l.handshake = s.link.handshake := by rfl)
    (log : l.logFifo = s.link.logFifo := by rfl) (check : l.checkFailures = s.link.checkFailures := by rfl)
    (tx : l.txFailures = s.link.txFailures := by rfl) :
    Moves c q s { s with link := l } :=
  (Move.link s l ⟨by simp [hs], by simp [log], by simp [check], by simp [tx]⟩).one

theorem placeStopNotice_moves (s : State) (k : FaultKind) : Moves c q s (s.placeStopNotice k) := by
  unfold State.placeStopNotice
  split
  · exact .refl
  · exact link_moves ..

theorem callAnnounce_moves (s : State) : Moves c q s s.callAnnounce := by
  unfold State.callAnnounce
  split
  · exact .refl
  · split
    · exact link_moves ..
    · split
      · exact .refl
      · exact link_moves ..
    · exact .refl

theorem repeatAnnounce_moves (s : State) : Moves c q s s.repeatAnnounce := by
  unfold State.repeatAnnounce
  split
  · exact link_moves ..
  · exact .refl

theorem startKeepAlive_moves (s : State) : Moves c q s s.startKeepAlive := link_moves ..

/-! ### The order queue -/

theorem lowestWith_eq_none {orders : Vector (Option Order) 12} {st : OrderStatus} :
    lowestWith orders st = none ↔ ∀ i : Fin 12, slotIs st orders[i] = false := by
  simp [lowestWith, List.find?_eq_none]

theorem slotIs_of_lowestWith {orders : Vector (Option Order) 12} {st : OrderStatus} {i : Fin 12}
    (h : lowestWith orders st = some i) : slotIs st orders[i] = true :=
  List.find?_some (p := fun i : Fin 12 => slotIs st orders[i]) h

theorem slotIs_some {st : OrderStatus} {o : Order} : slotIs st (some o) = true ↔ o.status = st := by
  simp [slotIs]

/-- The slots of a queue with one slot replaced. -/
theorem getElem_setSlot (orders : Vector (Option Order) 12) (i j : Fin 12) (x : Option Order) :
    (orders.set i x)[j] = if j = i then x else orders[j] := by
  by_cases h : j = i
  · subst h; simp
  · have : (i : Nat) ≠ j := fun e => h (Fin.ext e.symm)
    simp [h, this]

theorem finishSlot_final {st : OrderStatus} {o : Order} (hp : o.status ≠ .pending) (ha : o.status ≠ .active) :
    finishSlot st (some o) = some o := by
  simp [finishSlot, hp, ha]

theorem finishSlot_unfinished {st : OrderStatus} {o : Order} (h : o.status = .pending ∨ o.status = .active) :
    finishSlot st (some o) = some { o with status := st } := by
  simp [finishSlot, h]

/-- A slot that a status has finished is ACTIVE only where that is the status. -/
theorem slotIs_active_finishSlot {st : OrderStatus} (h : st ≠ .active) (slot : Option Order) :
    slotIs .active (finishSlot st slot) = false := by
  cases slot with
  | none => rfl
  | some o =>
    by_cases unfinished : o.status = .pending ∨ o.status = .active
    · simp [finishSlot_unfinished unfinished, slotIs, h]
    · obtain ⟨notPending, notActive⟩ := not_or.mp unfinished
      simp [finishSlot_final notPending notActive, slotIs, notActive]

@[simp] theorem finishSlot_none (st : OrderStatus) : finishSlot st none = none := rfl

/-- The slots of the queue after one order is finished. -/
theorem getElem_finishOrder (orders : Vector (Option Order) 12) (x : OrderIndex) (st : OrderStatus) (j : Fin 12) :
    (finishOrder orders x st)[j] = if x = some j then finishSlot st orders[j] else orders[j] := by
  cases x with
  | none => simp [finishOrder]
  | some i =>
    rw [finishOrder, getElem_setSlot]
    by_cases h : j = i
    · subst h; simp
    · simp [h, Ne.symm h]

theorem getElem_abandonOrders (orders : Vector (Option Order) 12) (j : Fin 12) :
    (abandonOrders orders)[j] = finishSlot .abandoned orders[j] := by
  simp [abandonOrders]

/-- A queue whose slots are each kept or finished: no order becomes ACTIVE, a final one stays, an empty slot too. -/
structure Finished (orders orders' : Vector (Option Order) 12) : Prop where
  slot : ∀ j : Fin 12, orders'[j] = orders[j] ∨ ∃ st, st ≠ .active ∧ orders'[j] = finishSlot st orders[j]

theorem finished_finishOrder (orders : Vector (Option Order) 12) (x : OrderIndex) {st : OrderStatus} (h : st ≠ .active) :
    Finished orders (finishOrder orders x st) where
  slot j := by
    rw [getElem_finishOrder]
    split
    · exact .inr ⟨st, h, rfl⟩
    · exact .inl rfl

theorem finished_abandonOrders (orders : Vector (Option Order) 12) : Finished orders (abandonOrders orders) where
  slot j := .inr ⟨.abandoned, by decide, getElem_abandonOrders orders j⟩

theorem Finished.single {orders orders' : Vector (Option Order) 12} (h : Finished orders orders')
    (single : SingleActive orders) : SingleActive orders' := by
  have before (j : Fin 12) (active : slotIs .active orders'[j] = true) : slotIs .active orders[j] = true := by
    obtain same | ⟨st, notActive, finished⟩ := h.slot j
    · rwa [same] at active
    · rw [finished, slotIs_active_finishSlot notActive] at active
      cases active
  exact fun i j hi hj => single i j (before i hi) (before j hj)

theorem Finished.final {orders orders' : Vector (Option Order) 12} (h : Finished orders orders') :
    FinalKept orders orders' := by
  intro j o held hp ha
  obtain same | ⟨st, -, finished⟩ := h.slot j
  · exact same.trans held
  · rw [finished, held, finishSlot_final hp ha]

theorem Finished.vacant {orders orders' : Vector (Option Order) 12} (h : Finished orders orders') (i : Fin 12)
    (empty : orders[i] = none) : orders'[i] = none := by
  obtain same | ⟨st, -, finished⟩ := h.slot i
  · exact same.trans empty
  · rw [finished, empty]; rfl

/-- A queue with a slot replaced by an unfinished order keeps its final orders. -/
theorem finalKept_set {orders : Vector (Option Order) 12} {i : Fin 12} {x : Option Order}
    (free : ∀ o, orders[i] = some o → o.status = .pending ∨ o.status = .active) : FinalKept orders (orders.set i x) := by
  intro j o held hp ha
  rw [getElem_setSlot]
  split
  · next same =>
    subst same
    rcases free o held with h | h
    · exact absurd h hp
    · exact absurd h ha
  · exact held

/-- A PENDING order put into the queue makes no other order ACTIVE. -/
theorem singleActive_set_pending {orders : Vector (Option Order) 12} (i : Fin 12) {o : Order} (h : o.status = .pending)
    (single : SingleActive orders) : SingleActive (orders.set i (some o)) := by
  intro j k hj hk
  rw [getElem_setSlot] at hj hk
  split at hj
  · simp [slotIs, h] at hj
  · split at hk
    · simp [slotIs, h] at hk
    · exact single j k hj hk

/-- An order made ACTIVE in a queue without one is the only one. -/
theorem singleActive_set_of_none {orders : Vector (Option Order) 12} (i : Fin 12) (x : Option Order)
    (none : lowestWith orders .active = none) : SingleActive (orders.set i x) := by
  rw [lowestWith_eq_none] at none
  have only (j : Fin 12) (h : slotIs .active (orders.set i x)[j] = true) : j = i := by
    by_contra other
    rw [getElem_setSlot, if_neg other, none j] at h
    cases h
  exact fun j k hj hk => (only j hj).trans (only k hk).symm

/-- What activation does: nothing, or the PENDING order of lowest index becomes ACTIVE (R105) and is judged (R106). -/
theorem activate_cases (s : State) :
    s.activate = s ∨
    ∃ i o, s.stem.state = .running ∧ s.fusion.zeroed = true ∧ s.activeIndex = none ∧
      lowestWith s.stem.orders .pending = some i ∧ s.stem.orders[i] = some o ∧ o.status = .pending ∧
      s.activate =
        { s with stem.orders := s.stem.orders.set i (some { o with status := .active }) }.judgePassed i o := by
  unfold State.activate
  split
  · next ready =>
    split
    · exact .inl rfl
    · next i lowest =>
      split
      · exact .inl rfl
      · next o held =>
        have pending := slotIs_of_lowestWith lowest
        rw [held, slotIs_some] at pending
        exact .inr ⟨i, o, ready.1, ready.2.1, ready.2.2, lowest, held, pending, rfl⟩
  · exact .inl rfl

theorem judgePassed_moves (s : State) (i : Fin 12) (o : Order) : Moves c q s (s.judgePassed i o) := by
  unfold State.judgePassed
  split
  · exact placeHandshake_moves ..
  · exact .refl

theorem activate_moves (s : State) : Moves c q s s.activate := by
  obtain same | ⟨i, o, running, -, none, -, held, pending, eq⟩ := activate_cases s
  · rw [same]
  · rw [eq]
    refine .trans (Move.stem s { s.stem with orders := s.stem.orders.set i (some { o with status := .active }) } ?_).one
      (judgePassed_moves ..)
    exact
      { state := rfl
        empty := fun noStem => by rw [running] at noStem; cases noStem
        active := fun _ => singleActive_set_of_none i _ none
        final := finalKept_set fun q h => by rw [held] at h; cases h; exact .inl pending
        vacant := fun j empty => by
          rw [getElem_setSlot]
          split
          · next same => rw [← same, empty] at held; cases held
          · exact empty
        logNumber := id }

/-- Orders are finished. -/
theorem finish_moves (s : State) (orders : Vector (Option Order) 12) (h : Finished s.stem.orders orders) :
    Moves c q s { s with stem.orders := orders } :=
  (Move.stem s { s.stem with orders := orders }
    { state := rfl
      empty := fun _ ⟨noOrders, view, close, ret⟩ => ⟨fun i => h.vacant i (noOrders i), view, close, ret⟩
      active := h.single
      final := h.final
      vacant := h.vacant
      logNumber := id }).one

/-- A change within an open stem that leaves the queue and the log number. -/
theorem stem_moves (s : State) (u : StemUnit) (openStem : s.stem.state ≠ .noStem) (state : u.state = s.stem.state)
    (orders : u.orders = s.stem.orders) (logNumber : s.stem.logNumber ≤ 255 → u.logNumber ≤ 255) :
    Moves c q s { s with stem := u } :=
  (Move.stem s u
    { state := state
      empty := fun noStem => absurd noStem openStem
      active := by rw [orders]; exact id
      final := fun j o held _ _ => by rw [orders]; exact held
      vacant := fun j empty => by rw [orders]; exact empty
      logNumber := logNumber }).one

/-! ### The entry into STOPPED, SILENT and the changes of stem state -/

theorem leaveCutting_moves (s : State) {new : StemState} (h : new ≠ .noStem) (openStem : s.stem.state ≠ .noStem) :
    Moves c q s (s.leaveCutting new) := by
  unfold State.leaveCutting
  split
  · exact (Move.closeStem s).one
  · exact ((stem_moves s { s.stem with returnState := none, view := none } openStem rfl rfl id).trans
      (Move.enterStem _ new h).one).trans (activate_moves _)

theorem enterStopped_moves (s : State) : Moves c q s s.enterStopped :=
  (Move.stop s).one.trans (activate_moves _)

/-- The end of a capture of STOP severity: the release disarmed, and from RUN the entry into STOPPED (R159, R162). -/
theorem disarmAndStop_moves (s : State) :
    Moves c q s
      (if s.safety.output = .run then State.enterStopped { s with safety.arming := none }
       else { s with safety.arming := none }) := by
  split
  · exact (Move.disarm s).one.trans (enterStopped_moves _)
  · exact (Move.disarm s).one

theorem captureStop_moves (s : State) (k : FaultKind) (cls : Option FrameClass) (sender : Option Ident) (isLocal : Bool) :
    Moves c q s (s.captureStop k cls sender isLocal) := by
  have placed : Moves c q s (if isLocal then (s.report k cls sender).placeStopNotice k else s.report k cls sender) := by
    split
    · exact (report_moves ..).trans (placeStopNotice_moves ..)
    · exact report_moves ..
  exact placed.trans (disarmAndStop_moves _)

theorem idConflict_moves (s : State) (cls : FrameClass) (silences : q) : Moves c q s (s.idConflict cls) :=
  (captureStop_moves ..).trans (Move.enterSilent _ silences).one

/-! ### Observing a frame -/

@[simp] theorem heard_gapCount (p : Peer) (now n : Nat) (cls : FrameClass) : (p.heard now n cls).gapCount = p.gapCount := by
  unfold Peer.heard Peer.rebaseline; dsimp only; split <;> split <;> split <;> rfl

/-- Recording a frame makes an entry SELF or takes it from SELF in no case. -/
theorem heard_self (p : Peer) (now n : Nat) (cls : FrameClass) :
    (p.heard now n cls).presence = .self ↔ p.presence = .self := by
  unfold Peer.heard Peer.rebaseline
  cases h : p.presence <;> cases isPublication cls <;> simp [h]

theorem peerKept_heard (s : State) (i : Ident) (now n : Nat) (cls : FrameClass) :
    PeerKept s i (s.peers[i].heard now n cls) where
  self := (heard_self ..).mp
  own := fun _ self => ⟨(heard_self ..).mpr self, Peer.heard_role .., Peer.heard_conflict ..⟩
  gapCount := by simp

/-- An entry that keeps presence, role, mark and gap count. -/
theorem peerKept_of_eq {s : State} {i : Ident} {p : Peer} (presence : p.presence = s.peers[i].presence)
    (role : p.role = s.peers[i].role) (conflict : p.conflict = s.peers[i].conflict)
    (gap : s.peers[i].gapCount ≤ 255 → p.gapCount ≤ 255) : PeerKept s i p where
  self := presence.symm.trans
  own := fun _ self => ⟨presence.trans self, role, conflict⟩
  gapCount := gap

theorem record_moves (s : State) (t : Nat) (f : RawFrame) : Moves c q s (s.record t f) := by
  have marked : Moves c q (s.clock t)
      { s.clock t with
        link.lineIdle := false
        link.ownCompleted := if f.sender = s.identity then none else s.link.ownCompleted } :=
    link_moves ..
  exact ((clock_moves s t).trans marked).trans (Move.peer _ f.sender _ (peerKept_heard _ f.sender ..)).one

/-- A frame is an identity conflict for a station: it is not SILENT, and the frame carries its identity without being the one
it has just sent to completion (R36 step 1, R41). -/
def IdConflict (s : State) (f : RawFrame) : Prop := s.phase ≠ .silent ∧ f.sender = s.identity ∧ s.isOwn f = false

/-- A command stands for a frame that is an identity conflict. -/
def Conflicts (c : Instr) (s : State) : Prop := ∃ f, observedFrame c = some f ∧ IdConflict s f

/-- The observation of a frame moves as what follows its recording does. -/
theorem observe_moves (s : State) (t : Nat) (f : RawFrame) (rest : Peer → State → State) (silences : IdConflict s f → q)
    (h : Moves c q (s.record t f) (rest s.peers[f.sender] (s.record t f))) : Moves c q s (s.observe t f rest) := by
  have seen : Moves c q s { s.clock t with link.lineIdle := false } :=
    (clock_moves s t).trans (link_moves ..)
  unfold State.observe
  split
  · exact seen
  · next awake =>
    split
    · next foreign => exact seen.trans (idConflict_moves _ _ (silences ⟨awake, foreign⟩))
    · exact (record_moves ..).trans h

theorem observeFor_moves (s : State) (t : Nat) (f : RawFrame) (body : Option (State → State))
    (silences : IdConflict s f → q) (h : ∀ g ∈ body, Moves c q (s.record t f) (g (s.record t f))) : Moves c q s (s.observeFor t f body) := by
  refine observe_moves s t f _ silences ?_
  split
  · cases body with
    | none => exact .refl
    | some g => exact h g rfl
  · exact .refl

theorem inStem_moves (s : State) (serial : Half) (g : State → State)
    (h : s.stem.state ≠ .noStem → s.phase = .operating → Moves c q s (g s)) : Moves c q s (s.inStem serial g) := by
  unfold State.inStem
  split
  · next taken =>
    have stem : s.stem.state ≠ .noStem := by
      have filter := taken.2
      simp only [State.serialFilter, Bool.and_eq_true, decide_eq_true_eq] at filter
      exact filter.1
    exact h stem taken.1
  · exact .refl

theorem inOperating_moves (s : State) (g : State → State) (h : s.phase = .operating → Moves c q s (g s)) :
    Moves c q s (s.inOperating g) := by
  unfold State.inOperating
  split
  · next operating => exact h operating
  · exact .refl

end Sys2Proof.Proofs.Effects
end

section
/-! PROOFS. The operations of the blocks as chains of moves, block by block, and then every command. -/

namespace Sys2Proof.Proofs.Effects

open Sys2Proof.Machine

variable {c : Instr} {q : Prop}

/-! ### The Feed Controller -/

/-- A change of the approach alone: mode, hold, demand and expiry timer stay. -/
theorem approach_moves (s : State) (f : Feed) (mode : f.mode = s.feed.mode := by rfl)
    (hold : f.hold = s.feed.hold := by rfl) (demand : f.demand = s.feed.demand := by rfl)
    (expiry : f.expiry = s.feed.expiry := by rfl) : Moves c q s { s with feed := f } :=
  (Move.feed s f
    { auto := fun auto => .inl (mode.symm.trans auto)
      stopped := fun _ _ idle => by simpa [FeedIdle, mode, hold, demand, expiry] using idle
      hold := fun _ free => hold.trans free }).one

theorem approachTo_moves (s : State) (stage : ApproachStage) (duty : Int) : Moves c q s (s.approachTo stage duty) :=
  approach_moves _ _

theorem approachCorrect_moves (s : State) (o : Order) : Moves c q s (s.approachCorrect o) := by
  unfold State.approachCorrect
  dsimp only
  split
  · exact approachTo_moves ..
  · split <;> split <;> exact approachTo_moves ..

theorem placeHalted_moves (s : State) (offsize : Bool) : Moves c q s (s.placeHalted offsize) :=
  (placeHandshake_moves ..).trans (approachTo_moves ..)

theorem approachSettle_moves (s : State) (o : Order) : Moves c q s (s.approachSettle o) := by
  have settled : Moves c q s (s.approachTo .settle 0) := approachTo_moves ..
  unfold State.approachSettle
  dsimp only
  split
  · exact settled
  · split
    · exact settled.trans (placeHalted_moves ..)
    · have counted := settled.trans (approach_moves (s.approachTo .settle 0)
        { (s.approachTo .settle 0).feed with attempts := satAdd (s.approachTo .settle 0).feed.attempts 1 }
       )
      split
      · exact counted.trans (placeHalted_moves ..)
      · exact (counted.trans (approach_moves _ _)).trans (approachCorrect_moves ..)

theorem approachDrive_moves (s : State) (o : Order) : Moves c q s (s.approachDrive o) := by
  have measured : Moves c q s
      { s with feed.previousD := some ((o.target : Int) * 1000 - s.fusion.p) } := approach_moves _ _
  unfold State.approachDrive
  dsimp only
  split
  · exact measured.trans (approachSettle_moves ..)
  · split
    · exact measured.trans (approachTo_moves ..)
    · split
      · exact measured.trans (approachTo_moves ..)
      · split
        · exact measured.trans (approachTo_moves ..)
        · exact measured.trans (approachSettle_moves ..)

theorem approachStep_moves (s : State) : Moves c q s s.approachStep := by
  have left : Moves c q s { s with feed.approachDuty := 0, feed.approachOrder := none } :=
    approach_moves _ _
  unfold State.approachStep
  split
  · split
    · split
      · next i o _ _ =>
        split
        · exact (approach_moves s (s.feed.newApproach i)).trans (approachDrive_moves ..)
        · split
          · exact approachDrive_moves ..
          · exact approachSettle_moves ..
          · exact approachCorrect_moves ..
          · exact approachTo_moves ..
      · exact left
    · exact left
  · exact .refl

theorem grantIfStopped_moves (s : State) : Moves c q s s.grantIfStopped := by
  unfold State.grantIfStopped
  split
  · next r yielding _ =>
    split
    · refine .trans (Move.feed s { s.feed with hold := .held } ?_).one (placeHandshake_moves ..)
      exact
        { auto := .inl
          stopped := fun _ _ ⟨_, free, _⟩ => by rw [yielding] at free; cases free
          hold := fun _ free => by rw [yielding] at free; cases free }
    · exact .refl
  · exact .refl

theorem feedRoller_moves (s : State) (still : Bool) : Moves c q s (s.feedRoller still) := by
  unfold State.feedRoller
  split
  · exact (approach_moves _ _).trans (grantIfStopped_moves _)
  · exact .refl

theorem yield_moves (s : State) (kind : CutKind) (index : OrderIndex) (stem : s.stem.state ≠ .noStem) :
    Moves c q s (s.yield_ kind index) := by
  unfold State.yield_
  split
  · next taken =>
    obtain ⟨-, -, run⟩ := taken
    refine .trans (Move.feed s { s.feed with hold := .yielding, holdRecord := some ⟨kind, index⟩ } ?_).one
      (grantIfStopped_moves _)
    exact
      { auto := .inl
        stopped := fun stopped => by rw [run] at stopped; cases stopped
        hold := fun noStem => absurd noStem stem }
  · exact .refl

theorem toManual_mode (f : Feed) : f.toManual.mode = .manual := by
  unfold Feed.toManual
  split
  · rfl
  · cases h : f.mode
    · rfl
    · contradiction

theorem toManual_hold (f : Feed) : f.toManual.hold = f.hold := by
  unfold Feed.toManual; split <;> rfl

theorem toManual_of_manual {f : Feed} (h : f.mode = .manual) : f.toManual = f := by
  simp [Feed.toManual, h]

theorem toManual_of_auto {f : Feed} (h : f.mode = .auto) :
    f.toManual = { f with mode := .manual, demand := 0, expiry := none } := by
  simp [Feed.toManual, h]

theorem toManual_idle {f : Feed} (h : FeedIdle f) : FeedIdle f.toManual := by
  rw [toManual_of_manual h.1]; exact h

/-- A change to MANUAL, with or without the end of the hold. -/
theorem feedKept_manual {s : State} {f : Feed} (manual : f.mode = .manual) (idle : FeedIdle s.feed → FeedIdle f)
    (hold : s.feed.hold = .free → f.hold = .free) : FeedKept s f where
  auto := fun auto => by rw [manual] at auto; cases auto
  stopped := fun _ _ => idle
  hold := fun _ => hold

theorem free_idle {f : Feed} : FeedIdle f → FeedIdle f.free := fun ⟨manual, _, demand, expiry⟩ => ⟨manual, rfl, demand, expiry⟩

theorem released_moves (s : State) (o : HoldOutcome) : Moves c q s { s with feed := s.feed.released o } := by
  refine (Move.feed s _ ?_).one
  unfold Feed.released
  split
  · exact ⟨.inl, fun _ _ => id, fun _ => id⟩
  · split
    · exact ⟨.inl, fun _ _ => free_idle, fun _ _ => rfl⟩
    · exact feedKept_manual (toManual_mode _) (fun h => toManual_idle (free_idle h)) fun _ => toManual_hold _

theorem sawLost_moves (s : State) (i : Ident) : Moves c q s (s.sawLost i) := by
  unfold State.sawLost
  split
  · exact captureStop_moves ..
  · exact .refl

theorem setFeedMode_moves (s : State) (sender : Ident) (m : FeedMode) : Moves c q s (s.setFeedMode sender m) := by
  unfold State.setFeedMode
  split
  · exact .refl
  · next feed =>
    split
    · exact (Move.feed s _ (feedKept_manual (toManual_mode _) toManual_idle fun h => (toManual_hold _).trans h)).one
    · exact .refl
    · split
      · next ready =>
        obtain ⟨zeroed, stem, run⟩ := ready
        refine (Move.feed s s.feed.toAuto ⟨fun _ => .inr ⟨not_not.mp feed, run, zeroed, ?_, ?_⟩, fun stopped => ?_, fun _ => id⟩).one
        · rcases stem with h | h <;> simp [h]
        · rcases stem with h | h <;> simp [h]
        · rw [run] at stopped; cases stopped
      · exact report_moves ..

/-! ### The Saw Sequencer -/

/-- A placement neither reads nor changes the sequencer. -/
theorem placeHandshake_saw_update (s : State) (x : Saw) (f : Frame) :
    State.placeHandshake { s with saw := x } f = { s.placeHandshake f with saw := x } := by
  unfold State.placeHandshake; split <;> [rfl; split <;> rfl]

theorem startHandshake_eq (s : State) (r : SawRecord) :
    s.startHandshake r =
      { s.placeHandshake (.holdRequest s.stem.serial r.kind r.index) with
        saw := { s.saw.enter .requested (s.inMs s.settings.grantTimeout) with record := some r } } := by
  unfold State.startHandshake
  rw [placeHandshake_saw_update]
  simp [State.sawEnter, State.inMs, Saw.enter, sawTimeout]

theorem startCut_eq (s : State) (r : SawRecord) :
    s.startCut r =
      { s.placeHandshake (.cutStart s.stem.serial r.kind r.index r.attempt) with
        saw := s.saw.enter .down (s.inMs s.settings.cutTimeout) } := by
  simp [State.startCut, State.sawEnter, State.inMs, sawTimeout]

theorem endHandshake_eq (s : State) (r : SawRecord) (o : HoldOutcome) :
    s.endHandshake r o =
      { s.placeHandshake (.holdRelease s.stem.serial r.kind r.index o) with saw := s.saw.discard } := by
  unfold State.endHandshake
  rw [placeHandshake_saw_update]
  simp [State.sawEnter, Saw.enter, Saw.discard]

/-- The sequencer in a handshake state, with the record that state asks for. -/
theorem sawSound_enter (x : Saw) (st : SawState) (due : Nat) (r : Option SawRecord)
    (owned : st = .requested ∨ st = .spin ∨ st = .down → r ≠ none) (idle : st = .idle → r = none) :
    SawSound { x.enter st due with record := r } := by
  refine ⟨owned, idle, ?_, ?_, ?_, ?_⟩ <;> (intro running; by_contra other; exact running (if_neg other))

theorem sawKept_enter {s : State} {st : SawState} (due : Nat) {r : Option SawRecord}
    (owned : st = .requested ∨ st = .spin ∨ st = .down → r ≠ none) (idle : st = .idle → r = none)
    (requested : st = .requested → s.stem.state ≠ .noStem)
    (stopped : s.safety.output = .stopped → SawSound s.saw → SawIdle s.saw → st = .idle) :
    SawKept s { s.saw.enter st due with record := r } where
  sound := fun _ => sawSound_enter s.saw st due r owned idle
  requested := fun noStem _ h => requested h noStem
  stopped := fun output _ sound sawIdle => ⟨stopped output sound sawIdle, idle (stopped output sound sawIdle)⟩

theorem SawIdle.not_of_state {x : Saw} {st : SawState} (h : x.state = st) (other : st ≠ .idle) : ¬ SawIdle x :=
  fun idle => other (h.symm.trans idle.1)

/-- The sequencer discards its record and is IDLE. -/
theorem sawKept_discard (s : State) : SawKept s s.saw.discard :=
  sawKept_enter (st := .idle) 0 (fun h => by simp at h) (fun _ => rfl) (fun h => by cases h) fun _ _ _ => rfl

/-- A placement, and then a change of the sequencer that the state before admits. -/
theorem placeHandshake_saw_moves (s : State) (f : Frame) (x : Saw) (h : SawKept s x) :
    Moves c q s { s.placeHandshake f with saw := x } := by
  rw [← placeHandshake_saw_update]
  exact (Move.saw s x h).one.trans (placeHandshake_moves ..)

theorem startHandshake_moves (s : State) (r : SawRecord) (stem : s.stem.state ≠ .noStem) (run : s.safety.output = .run) :
    Moves c q s (s.startHandshake r) := by
  rw [startHandshake_eq]
  exact placeHandshake_saw_moves s _ _ (sawKept_enter (st := .requested) _ (fun _ => by simp) (fun h => by cases h)
    (fun _ => stem) fun stopped => by rw [run] at stopped; cases stopped)

theorem startCut_moves (s : State) (r : SawRecord) {held : SawRecord} (spin : s.saw.state = .spin)
    (record : s.saw.record = some held) : Moves c q s (s.startCut r) := by
  rw [startCut_eq]
  exact placeHandshake_saw_moves s _ _ (sawKept_enter (st := .down) _ (r := s.saw.record) (fun _ => by simp [record])
    (fun h => by cases h) (fun h => by cases h) fun _ _ idle => absurd idle (SawIdle.not_of_state spin (by decide)))

theorem endHandshake_moves (s : State) (r : SawRecord) (o : HoldOutcome) : Moves c q s (s.endHandshake r o) := by
  rw [endHandshake_eq]
  exact placeHandshake_saw_moves s _ _ (sawKept_discard s)

/-- RETURN is entered from a handshake state. -/
theorem sawKept_ret {s : State} (due : Nat) (r : Option SawRecord)
    (stopped : s.safety.output = .stopped → SawSound s.saw → ¬ SawIdle s.saw) :
    SawKept s { s.saw.enter .ret due with record := r } :=
  sawKept_enter (st := .ret) due (fun h => by simp at h) (fun h => by cases h) (fun h => by cases h)
    fun output sound idle => absurd idle (stopped output sound)

/-- The cut marks change, and nothing else of the Stem and Order Unit. -/
theorem marks_moves (s : State) (offsize dispute : Bool) :
    Moves c q s { s with stem.offsizeMark := offsize, stem.disputeMark := dispute } :=
  (Move.stem s { s.stem with offsizeMark := offsize, disputeMark := dispute }
    { state := rfl
      empty := fun _ => id
      active := id
      final := fun _ _ held _ _ => held
      vacant := fun _ => id
      logNumber := id }).one

theorem finishCut_eq (s : State) (r : SawRecord) :
    s.finishCut r =
      { s.placeHandshake (.cutDone s.stem.serial r.kind r.index s.fusion.p) with
        stem.offsizeMark := r.offsize
        stem.disputeMark := r.dispute
        saw := { s.saw.enter .ret (s.inMs s.settings.returnTimeout) with record := some { r with cutDone := true } } } := by
  simp [State.finishCut, State.sawEnter, State.inMs, Saw.enter, sawTimeout]

theorem finishCut_moves (s : State) (r : SawRecord) (down : s.saw.state = .down) : Moves c q s (s.finishCut r) := by
  rw [finishCut_eq]
  exact (placeHandshake_saw_moves s _ _ (sawKept_ret _ _ fun _ _ => SawIdle.not_of_state down (by decide))).trans
    (marks_moves ..)

theorem settleAttempt_moves (s : State) (r : SawRecord) (ret : s.saw.state = .ret) : Moves c q s (s.settleAttempt r) := by
  unfold State.settleAttempt
  split
  · exact (Move.saw s _ (sawKept_enter (st := .spin) _ (r := some { r with attempt := r.attempt + 1 })
      (fun _ => by simp) (fun h => by cases h) (fun h => by cases h)
      fun _ _ idle => absurd idle (SawIdle.not_of_state ret (by decide)))).one
  · exact (endHandshake_moves ..).trans (report_moves ..)

theorem startHoming_moves (s : State) (run : s.safety.output = .run) : Moves c q s s.startHoming :=
  (Move.saw s _ (sawKept_ret _ none fun stopped => by rw [run] at stopped; cases stopped)).one

theorem sawEnter_idle_moves (s : State) (record : s.saw.record = none) : Moves c q s (s.sawEnter .idle) :=
  (Move.saw s (s.saw.enter .idle (s.inMs (sawTimeout s.settings .idle)))
    (sawKept_enter (st := .idle) (s.inMs (sawTimeout s.settings .idle)) (r := s.saw.record) (fun h => by simp at h) (fun _ => record)
    (fun h => by cases h) fun _ _ _ => rfl)).one

theorem testFlags_moves (s : State) (first home end_ : Bool) : Moves c q s (s.testFlags first home end_) := by
  unfold State.testFlags
  split
  · next down _ => split <;> [exact finishCut_moves s _ down; exact .refl]
  · next ret _ =>
    split
    · split <;> [exact endHandshake_moves ..; exact settleAttempt_moves s _ ret]
    · exact .refl
  · next record => split <;> [exact sawEnter_idle_moves s record; exact .refl]
  · split
    · next homing => exact startHoming_moves s homing.2.2
    · exact .refl
  · exact .refl

/-- What a delivery stores changes neither the handshake state nor its record and timers. -/
theorem delivery_moves (s : State) (x : Saw) (state : x.state = s.saw.state := by rfl)
    (record : x.record = s.saw.record := by rfl) (grant : x.grantTimer = s.saw.grantTimer := by rfl)
    (chain : x.chainTimer = s.saw.chainTimer := by rfl) (cut : x.cutTimer = s.saw.cutTimer := by rfl)
    (ret : x.returnTimer = s.saw.returnTimer := by rfl) : Moves c q s { s with saw := x } :=
  (Move.saw s x
    { sound := fun sound => by simpa [SawSound, state, record, grant, chain, cut, ret] using sound
      requested := fun _ other => by rwa [state]
      stopped := fun _ _ _ idle => by simpa [SawIdle, state, record] using idle }).one

theorem deliverFlags_moves (s : State) (home end_ : Bool) : Moves c q s (s.deliverFlags home end_) := by
  unfold State.deliverFlags
  split
  · exact (delivery_moves s _).trans (testFlags_moves ..)
  · exact .refl

theorem deliverPeriod_moves (s : State) (period : Option Nat) : Moves c q s (s.deliverPeriod period) := by
  have stored : Moves c q s { s with saw.lastPeriod := period } := delivery_moves s _
  unfold State.deliverPeriod
  split
  · dsimp only
    split
    · next spin record =>
      split
      · exact stored.trans (startCut_moves _ _ spin record)
      · exact stored
    · exact stored
  · exact .refl

theorem sawHalted_moves (s : State) (index : OrderIndex) (p : Int) (offsize : Bool) (stem : s.stem.state ≠ .noStem) :
    Moves c q s (s.sawHalted index p offsize) := by
  unfold State.sawHalted
  split
  · next taken =>
    split
    · exact .refl
    · split
      · exact placeHandshake_moves ..
      · exact startHandshake_moves s _ stem taken.2.2.1
  · exact .refl

theorem sawEnter_spin_moves (s : State) {held : SawRecord} (requested : s.saw.state = .requested)
    (record : s.saw.record = some held) : Moves c q s (s.sawEnter .spin) :=
  (Move.saw s _ (sawKept_enter (st := .spin) _ (r := s.saw.record) (fun _ => by simp [record])
    (fun h => by cases h) (fun h => by cases h)
    fun _ _ idle => absurd idle (SawIdle.not_of_state requested (by decide)))).one

/-- The record of a requested handshake is replaced. -/
theorem saw_record_moves (s : State) (r : SawRecord) (requested : s.saw.state = .requested) :
    Moves c q s { s with saw.record := some r } :=
  (Move.saw s { s.saw with record := some r }
    { sound := fun ⟨_, _, timers⟩ => ⟨fun _ => by simp, fun idle => (by
        have : s.saw.state = .idle := idle
        rw [requested] at this; cases this), timers⟩
      requested := fun _ => id
      stopped := fun _ _ _ idle => absurd idle (SawIdle.not_of_state requested (by decide)) }).one

/-- A grant taken at a record: the report of a dispute, SPIN, and DOWN where the chain is at speed. -/
theorem spinAndStart_moves (s : State) (r held : SawRecord) (requested : s.saw.state = .requested)
    (record : s.saw.record = some held) :
    Moves c q s
      (if chainAtSpeed (s.sawEnter .spin).settings (s.sawEnter .spin).saw.lastPeriod then (s.sawEnter .spin).startCut r
       else s.sawEnter .spin) := by
  have spin : Moves c q s (s.sawEnter .spin) := sawEnter_spin_moves s requested record
  split
  · exact spin.trans (startCut_moves _ _ rfl record)
  · exact spin

theorem granted_moves (s : State) (r : SawRecord) (sender : Ident) (requested : s.saw.state = .requested) :
    Moves c q s (s.granted r sender) := by
  unfold State.granted
  cases disputes s.settings s.fusion.p r
  · exact (saw_record_moves s r requested).trans (spinAndStart_moves _ r r requested rfl)
  · exact ((saw_record_moves s { r with dispute := true } requested).trans (report_moves ..)).trans
      (spinAndStart_moves _ _ { r with dispute := true } requested rfl)

theorem sawGrant_moves (s : State) (sender : Ident) (serial : Half) (kind : CutKind) (index : OrderIndex) :
    Moves c q s (s.sawGrant sender serial kind index) := by
  unfold State.sawGrant
  split
  · exact .refl
  · split
    · next requested _ => split <;> [exact granted_moves s _ _ requested; exact .refl]
    · split <;> [exact placeHandshake_moves ..; exact .refl]
    · exact .refl

theorem commandCut_moves (s : State) (sender : Ident) (kind : CutKind) (stem : s.stem.state ≠ .noStem) :
    Moves c q s (s.commandCut sender kind) := by
  unfold State.commandCut
  split
  · exact .refl
  · split
    · next taken => exact startHandshake_moves s _ stem taken.2.1
    · exact report_moves ..

/-- The expiry of a timer that a handshake state owns: the attempt has failed, RETURN (R136, R138). -/
theorem failAttempt_moves (s : State) (running : SawSound s.saw → s.saw.state ≠ .idle) :
    Moves c q s (s.sawEnter .ret) :=
  (Move.saw s _ (sawKept_ret _ s.saw.record fun _ sound idle => running sound idle.1)).one

theorem chainTimer_not_idle {x : Saw} {due : Nat} (h : x.chainTimer = some due) (sound : SawSound x) : x.state ≠ .idle := by
  obtain ⟨-, -, -, chain, -⟩ := sound
  rw [chain (by simp [h])]; decide

theorem cutTimer_not_idle {x : Saw} {due : Nat} (h : x.cutTimer = some due) (sound : SawSound x) : x.state ≠ .idle := by
  obtain ⟨-, -, -, -, cut, -⟩ := sound
  rw [cut (by simp [h])]; decide

/-! ### The Capture Unit -/

theorem capture_moves (s : State) (x : Capture) : Moves c q s { s with capture := x } := (Move.capture s x).one

theorem expireChain_moves (s : State) : Moves c q s s.expireChain :=
  (capture_moves ..).trans (deliverPeriod_moves ..)

theorem nextEdge_moves (s : State) (gap : Nat) : Moves c q s (s.nextEdge gap) :=
  (capture_moves ..).trans (deliverPeriod_moves ..)

theorem publishGate_moves (s : State) : Moves c q s s.publishGate :=
  (link_moves s { s.link with gateSlot := some ⟨.gate s.capture.gateSeq s.capture.cap2.total, 0⟩ }).trans
    (capture_moves ..)

theorem publishDiameter_moves (s : State) : Moves c q s s.publishDiameter := link_moves ..

theorem publishMotion_moves (s : State) : Moves c q s s.publishMotion :=
  (link_moves s { s.link with motionSlot := some ⟨.motion s.capture.motionSeq s.capture.cap2.total s.capture.contact, 0⟩ }).trans
    (capture_moves ..)

theorem publishRoller_moves (s : State) : Moves c q s s.publishRoller :=
  (link_moves s { s.link with rollerSlot := some ⟨.roller s.capture.rollerSeq s.capture.cap0.total s.capture.cap1.total, 0⟩ }).trans
    (capture_moves ..)

theorem convert_moves (s : State) (an0 an1 an2 an3 : Raw) : Moves c q s (s.convert an0 an1 an2 an3) := by
  unfold State.convert; split <;> exact capture_moves ..

theorem publish_moves (s : State) : Moves c q s s.publish := by
  unfold State.publish
  split
  · exact (publishRoller_moves s).trans (publishDiameter_moves _)
  · exact publishMotion_moves s
  · exact publishDiameter_moves s
  · exact .refl

/-! ### The Stem and Order Unit -/

theorem takeOrder_moves (s : State) {t : Nat} {sender : Ident} {serial : Half} {index : Byte} {target : Half}
    {minus plus : Byte} {top : Half} {grade : Byte} (stem : s.stem.state ≠ .noStem) :
    Moves (.order t sender serial index target minus plus top grade) q s
      (s.takeOrder sender index (orderOf target minus plus top grade)) := by
  unfold State.takeOrder
  split
  · next bound =>
    split
    · exact .trans (Move.order s _ _ _ _ _ _ _ _ _ rfl ⟨index.toNat, bound⟩ _ rfl stem).one (activate_moves _)
    · exact report_moves ..
  · exact report_moves ..

theorem stemGrant_moves (s : State) (kind : CutKind) (index : OrderIndex) : Moves c q s (s.stemGrant kind index) := by
  unfold State.stemGrant
  split
  · next fits =>
    have stem : s.stem.state ≠ .noStem := fun noStem => by rw [noStem] at fits; cases fits
    exact (stem_moves s { s.stem with returnState := some s.stem.state, view := some ⟨kind, index, .requested⟩ }
      stem rfl rfl id).trans (Move.enterStem _ .cutting (by decide)).one
  · exact .refl

theorem progressTo_moves (s : State) (kind : CutKind) (index : OrderIndex) (p : Progress)
    (stem : s.stem.state ≠ .noStem) : Moves c q s { s with stem := s.stem.progressTo kind index p } :=
  stem_moves s _ stem rfl rfl id

theorem stemHalted_moves (s : State) (index : OrderIndex) : Moves c q s (s.stemHalted index) := by
  unfold State.stemHalted
  split
  · exact (Move.enterStem s .atMark (by decide)).one
  · exact .refl

theorem rejectOrder_moves (s : State) (index : OrderIndex) : Moves c q s (s.rejectOrder index) := by
  have rejected : Moves c q s { s with stem.orders := finishOrder s.stem.orders index .rejected } :=
    finish_moves s _ (finished_finishOrder _ _ (by decide))
  unfold State.rejectOrder
  dsimp only
  split
  · exact (rejected.trans (Move.enterStem _ .running (by decide)).one).trans (activate_moves _)
  · exact rejected.trans (activate_moves _)

theorem releaseTarget_ne_noStem (u : StemUnit) (o : HoldOutcome) : releaseTarget u o ≠ .noStem := by
  unfold releaseTarget
  split
  · decide
  · split
    · decide
    · split
      · split <;> decide
      · decide
  · decide

theorem applyOutcome_moves (s : State) (kind : CutKind) (index : OrderIndex) (o : HoldOutcome) :
    Moves c q s { s with stem := s.stem.applyOutcome kind index o } := by
  unfold StemUnit.applyOutcome
  split
  · exact finish_moves s _ (finished_finishOrder _ _ (by decide))
  · exact .refl

/-- The outcome of a HOLD RELEASE changes no stem state. -/
theorem applyOutcome_state (u : StemUnit) (kind : CutKind) (index : OrderIndex) (o : HoldOutcome) :
    (u.applyOutcome kind index o).state = u.state := by
  unfold StemUnit.applyOutcome; split <;> rfl

theorem stemRelease_moves (s : State) (kind : CutKind) (index : OrderIndex) (o : HoldOutcome)
    (stem : s.stem.state ≠ .noStem) : Moves c q s (s.stemRelease kind index o) := by
  have applied := applyOutcome_moves (c := c) (q := q) s kind index o
  have stem' : (s.stem.applyOutcome kind index o).state ≠ .noStem := by rwa [applyOutcome_state]
  unfold State.stemRelease
  dsimp only
  split
  · exact applied.trans (leaveCutting_moves _ (releaseTarget_ne_noStem _ _) stem')
  · have viewed := applied.trans (stem_moves { s with stem := s.stem.applyOutcome kind index o }
      { s.stem.applyOutcome kind index o with view := none } stem' rfl rfl id)
    split
    · exact (viewed.trans (Move.enterStem _ .running (by decide)).one).trans (activate_moves _)
    · exact viewed.trans (activate_moves _)

theorem buildLog_moves (s : State) (kind : CutKind) (index : OrderIndex) : Moves c q s (s.buildLog kind index) :=
  (placeLog_moves ..).trans (marks_moves ..)

theorem clear_buckets (p : Profile) (k : Fin 400) : p.clear.buckets[k] = none := by simp [Profile.clear]

theorem zeroEvent_moves (s : State) (stem : s.stem.state ≠ .noStem) : Moves c q s s.zeroEvent := by
  have track : Moves c q s { s with fusion := s.fusion.zeroEvent } :=
    (Move.track s s.fusion.zeroEvent
      { inRange := fun _ => (by decide : Config.pMin ≤ 0 ∧ 0 ≤ Config.pMax)
        ring := id
        counted := fun ⟨frames, nonWheel, empty, _, _⟩ => ⟨frames, nonWheel, empty, Nat.zero_le _, Nat.zero_le _⟩
        zeroed := fun _ => rfl
        noStem := fun noStem => absurd noStem stem }).one
  have profile : Moves c q { s with fusion := s.fusion.zeroEvent }
      { s with fusion := s.fusion.zeroEvent, profile := s.profile.clear } :=
    (Move.profile { s with fusion := s.fusion.zeroEvent } s.profile.clear
      ⟨fun _ => id, fun _ _ => clear_buckets _⟩).one
  refine (track.trans profile).trans (approach_moves _ _ ?_ ?_ ?_ ?_) <;>
    (unfold Feed.zeroEvent; split <;> rfl)

/-- The part of a CUT DONE after the log record: the order CUT, the view DONE, the zero event and activation. -/
theorem finishAndZero_moves (s : State) (kind : CutKind) (index : OrderIndex) (stem : s.stem.state ≠ .noStem) :
    Moves c q s
      (let v := if kind = .order then { s with stem.orders := finishOrder s.stem.orders index .cut } else s
       let v := { v with stem := v.stem.progressTo kind index .done }
       v.zeroEvent.activate) := by
  have zeroed (v : State) (open_ : v.stem.state ≠ .noStem) :
      Moves c q v (State.activate (State.zeroEvent { v with stem := v.stem.progressTo kind index .done })) :=
    ((progressTo_moves v kind index .done open_).trans (zeroEvent_moves _ open_)).trans (activate_moves _)
  by_cases order : kind = .order
  · rw [if_pos order]
    exact (finish_moves s _ (finished_finishOrder _ index (by decide))).trans (zeroed _ stem)
  · rw [if_neg order]
    exact zeroed s stem

theorem takeCutDone_moves (s : State) (sender : Ident) (kind : CutKind) (index : OrderIndex)
    (stem : s.stem.state ≠ .noStem) : Moves c q s (s.takeCutDone sender kind index) := by
  have counted : Moves c q s { s with stem.logNumber := satAdd s.stem.logNumber 1 } :=
    stem_moves s { s.stem with logNumber := satAdd s.stem.logNumber 1 } stem rfl rfl fun _ => satAdd_le _ _
  have logged (v : State) :
      Moves c q v (if v.role = .saw ∧ sender = v.identity then v.buildLog kind index else v) := by
    split
    · exact buildLog_moves ..
    · exact .refl
  have loggedState (v : State) :
      (if v.role = .saw ∧ sender = v.identity then v.buildLog kind index else v).stem.state = v.stem.state := by
    split <;> simp [State.buildLog]
  exact (counted.trans (logged _)).trans (finishAndZero_moves _ kind index (by rwa [loggedState]))

end Sys2Proof.Proofs.Effects
end

section
/-! PROOFS. The remaining blocks as chains of moves (profile, track, link, Peer Table, release, valves), and every command:
`exec_moves` is the one case split over the commands that the invariants rest on. -/

namespace Sys2Proof.Proofs.Effects

open Sys2Proof.Machine

variable {c : Instr} {q : Prop}

/-! ### The Profile Unit -/

theorem recompute_moves (s : State) : Moves c q s s.recompute := by
  have thin (fused : Nat) (empty : s.profile.thinTravel = 0) :
      (if s.settings.topDiameter ≤ fused then 0 else s.profile.thinTravel) = 0 := by
    split
    · rfl
    · exact empty
  unfold State.recompute
  exact (Move.profile s { s.profile with fused := _, diameterClass := _, thinTravel := _ }
    ⟨fun _ => thin _, fun _ => id⟩).one

theorem takeDiameter_moves (s : State) (role : PeerRole) (mm : Half) : Moves c q s (s.takeDiameter role mm) := by
  have stored (p : Profile) (thin : p.thinTravel = s.profile.thinTravel := by rfl)
      (buckets : p.buckets = s.profile.buckets := by rfl) : Moves c q s { s with profile := p } :=
    (Move.profile s p ⟨fun _ h => thin.trans h, fun _ h k => by rw [buckets]; exact h k⟩).one
  unfold State.takeDiameter
  dsimp only
  split
  · exact (stored _).trans (recompute_moves _)
  · exact (stored _).trans (recompute_moves _)
  · exact .refl

theorem reportTop_moves (s : State) : Moves c q s s.reportTop :=
  (finish_moves s _ (finished_abandonOrders _)).trans (Move.enterStem _ .topped (by decide)).one

theorem countThin_moves (s : State) (change : Int) : Moves c q s (s.countThin change) := by
  unfold State.countThin
  split
  · next thin =>
    have stem : s.stem.state ≠ .noStem := fun noStem => by rw [noStem] at thin; cases thin.1
    have counted : Moves c q s { s with profile.thinTravel := s.profile.thinTravel + change.toNat } :=
      (Move.profile s { s.profile with thinTravel := s.profile.thinTravel + change.toNat }
        ⟨fun noStem => absurd noStem stem, fun _ => id⟩).one
    dsimp only
    split
    · exact counted.trans (reportTop_moves _)
    · exact counted
  · exact .refl

theorem handOver_moves (s : State) (change : Int) (stem : s.stem.state ≠ .noStem) : Moves c q s (s.handOver change) := by
  unfold State.handOver
  split
  · exact (Move.profile s { s.profile with buckets := fillBuckets s.profile.buckets s.fusion.p s.profile.fused }
      ⟨fun _ => id, fun noStem => absurd noStem stem⟩).one.trans (countThin_moves ..)
  · exact .refl

/-! ### The Length Fusion Unit -/

/-- A change of the track that leaves P, zeroed, the ring and the counts of the log. -/
theorem track_moves (s : State) (f : Fusion) (counted : TrackCounted s.fusion → TrackCounted f)
    (p : f.p = s.fusion.p := by rfl) (zeroed : f.zeroed = s.fusion.zeroed := by rfl)
    (ring : f.ring = s.fusion.ring := by rfl) : Moves c q s { s with fusion := f } :=
  (Move.track s f
    { inRange := by rw [p]; exact id
      ring := by rw [ring]; exact id
      counted := counted
      zeroed := zeroed.trans
      noStem := fun _ => ⟨p, zeroed⟩ }).one

theorem ring_moves (s : State) (e : RingEntry) : Moves c q s { s with fusion.ring := pushRing s.fusion.ring e } :=
  (Move.track s { s.fusion with ring := pushRing s.fusion.ring e }
    { inRange := id, ring := fun _ => pushRing_length .., counted := id, zeroed := id, noStem := fun _ => ⟨rfl, rfl⟩ }).one

/-- P set within its range. -/
theorem position_moves (s : State) (p : Int) (range : Config.pMin ≤ p ∧ p ≤ Config.pMax) (stem : s.stem.state ≠ .noStem) :
    Moves c q s { s with fusion.p := p } :=
  (Move.track s { s.fusion with p := p }
    { inRange := fun _ => range, ring := id, counted := id, zeroed := id, noStem := fun h => absurd h stem }).one

theorem moveP_moves (s : State) (change : Int) (cls : Option FrameClass) (sender : Option Ident)
    (stem : s.stem.state ≠ .noStem) : Moves c q s (s.moveP change cls sender) := by
  have moved := position_moves (c := c) (q := q) s (clampInt Config.pMin Config.pMax (s.fusion.p + change))
    (clampInt_range _ _ _ (by decide)) stem
  unfold State.moveP
  dsimp only
  split
  · exact moved.trans (report_moves ..)
  · exact moved

theorem live_stem {s : State} (live : s.live = true) : s.stem.state ≠ .noStem := by
  simp only [State.live, Bool.and_eq_true, decide_eq_true_eq] at live
  exact live.1.2

@[simp] theorem moveP_stem (s : State) (change : Int) (cls : Option FrameClass) (sender : Option Ident) :
    (s.moveP change cls sender).stem = s.stem := by
  unfold State.moveP; dsimp only; split <;> rfl

theorem applyChosen_moves (s : State) (chosen : Int) (cls : Option FrameClass) (sender : Option Ident) :
    Moves c q s (s.applyChosen chosen cls sender) := by
  unfold State.applyChosen
  split
  · next live =>
    exact (moveP_moves s chosen cls sender (live_stem live)).trans (handOver_moves _ _ (by simpa using live_stem live))
  · exact .refl

theorem countClose_counted {f : Fusion} (v : Verdict) : TrackCounted f → TrackCounted (f.countClose v) := by
  rintro ⟨frames, nonWheelRun, -, -, logNonWheel⟩
  refine ⟨frames, ?_, Nat.zero_le _, satAdd_le _ _, ?_⟩
  · dsimp only [Fusion.countClose]; split <;> [exact satAdd_le _ _; exact Nat.zero_le _]
  · dsimp only [Fusion.countClose]; split <;> [exact satAdd_le _ _; exact logNonWheel]

theorem countClose_moves (s : State) (v : Verdict) : Moves c q s { s with fusion := s.fusion.countClose v } :=
  track_moves s _ (countClose_counted v)

theorem reportDegraded_moves (s : State) (cls : Option FrameClass) (sender : Option Ident) :
    Moves c q s (s.reportDegraded cls sender) := by
  unfold State.reportDegraded
  split
  · exact (report_moves ..).trans (track_moves _ _ id)
  · exact .refl

theorem endClose_moves (s : State) : Moves c q s s.endClose :=
  track_moves s _ fun ⟨_, counts⟩ => ⟨Nat.zero_le _, counts⟩

theorem credit_moves (s : State) (credit : Int) : Moves c q s { s with fusion.credit := credit } := track_moves s _ id

/-- Every ring a judgement leaves is the old one with an entry pushed. -/
theorem judge_ring (σ : Settings) (ring : List RingEntry) (w : Int) (r : Option Int) (contact : Bool) :
    ∃ e, (judge σ ring w r contact).ring = pushRing ring e := by
  unfold judge
  split
  · exact ⟨_, rfl⟩
  · split
    · dsimp only; split <;> exact ⟨_, rfl⟩
    · exact ⟨_, rfl⟩

theorem closeMotion_moves (s : State) (sender : Ident) (dW : Int) (contact : Bool) :
    Moves c q s (s.closeMotion sender dW contact) := by
  obtain ⟨e, pushed⟩ := judge_ring s.settings s.fusion.ring (s.wheelDistance dW - s.fusion.credit)
    (rollerDistanceOf s.settings.rollerScale s.fusion) contact
  unfold State.closeMotion
  dsimp only
  rw [pushed]
  exact (((((ring_moves s e).trans (applyChosen_moves ..)).trans (countClose_moves ..)).trans
    (reportDegraded_moves ..)).trans (credit_moves ..)).trans (endClose_moves _)

theorem closeRoller_moves (s : State) (r : Int) : Moves c q s (s.closeRoller r) :=
  (((((ring_moves s _).trans (applyChosen_moves ..)).trans (credit_moves ..)).trans (countClose_moves ..)).trans
    (reportDegraded_moves ..)).trans (endClose_moves _)

/-- The loss of the track, as one change of track and feed mode and the capture of TRACK LOST. -/
theorem loseTrack_eq (s : State) :
    s.loseTrack =
      if Config.lostRun ≤ s.fusion.emptyRun ∧ s.fusion.zeroed = true then
        State.report { s with fusion.zeroed := false, feed := s.feed.toManual } .trackLost none none
      else s := rfl

theorem loseTrack_moves (s : State) : Moves c q s s.loseTrack := by
  rw [loseTrack_eq]
  split
  · exact (Move.loseTrack s).one.trans (report_moves ..)
  · exact .refl

theorem closeEmpty_moves (s : State) : Moves c q s s.closeEmpty := by
  have counted : Moves c q s { s with fusion.verdict := .empty, fusion.emptyRun := satAdd s.fusion.emptyRun 1 } :=
    track_moves s _ fun ⟨frames, run, _, log⟩ => ⟨frames, run, satAdd_le _ _, log⟩
  exact (counted.trans (loseTrack_moves _)).trans (endClose_moves _)

theorem setPeer_moves (s : State) (i : Ident) (p : Peer) (h : PeerKept s i p) : Moves c q s (s.setPeer i p) :=
  (Move.peer s i p h).one

theorem countGap_moves (s : State) (cls : FrameClass) (sender : Ident) (skipped : Nat) :
    Moves c q s (s.countGap cls sender skipped) := by
  unfold State.countGap
  split
  · exact .refl
  · have counted := setPeer_moves (c := c) (q := q) s sender
      { s.peers[sender] with gapCount := satAdd s.peers[sender].gapCount skipped }
      (peerKept_of_eq rfl rfl rfl fun _ => satAdd_le _ _)
    exact counted.trans (report_moves ..)

theorem takeMotion_moves (s : State) (sender : Ident) (seq : Byte) (total : Word) :
    Moves c q s (s.takeMotion sender seq total).1 := by
  have stored := setPeer_moves (c := c) (q := q) s sender
    { s.peers[sender] with wheelTotal := total, motionSeq := some seq, baselinePending := false }
    (peerKept_of_eq rfl rfl rfl id)
  unfold State.takeMotion
  dsimp only
  split
  · exact stored
  · exact stored.trans (countGap_moves ..)

theorem deliverWheel_moves (s : State) (sender : Ident) (contact : Bool) (d : WheelDelivery) :
    Moves c q s (s.deliverWheel sender contact d) := by
  unfold State.deliverWheel
  split <;> split
  · exact credit_moves ..
  · exact .refl
  · exact closeMotion_moves ..
  · exact .refl

theorem takeRoller_moves (s : State) (sender : Ident) (seq : Byte) (left right : Word) :
    Moves c q s (s.takeRoller sender seq left right).1 := by
  have stored := setPeer_moves (c := c) (q := q) s sender
    { s.peers[sender] with leftTotal := left, rightTotal := right, rollerSeq := some seq, baselinePending := false }
    (peerKept_of_eq rfl rfl rfl id)
  unfold State.takeRoller
  dsimp only
  split
  · exact stored
  · exact stored.trans (countGap_moves ..)

theorem arrive_moves (s : State) (left right : Int) : Moves c q s { s with fusion := s.fusion.arrive left right } :=
  track_moves s _ fun ⟨_, counts⟩ => ⟨satAdd_le _ _, counts⟩

theorem deliverRoller_moves (s : State) (sender : Ident) (d : Option (Int × Int)) :
    Moves c q s (s.deliverRoller sender d) := by
  have arrived : Moves c q s
      (match d with
        | some (l, r) => if s.phase = .operating then { s with fusion := s.fusion.arrive l r } else s
        | none => s) := by
    split
    · split
      · exact arrive_moves ..
      · exact .refl
    · exact .refl
  have told (v : State) (still : Bool) : Moves c q v (if sender = v.identity then v.feedRoller still else v) := by
    split
    · exact feedRoller_moves ..
    · exact .refl
  exact arrived.trans (told _ _)

theorem takeGate_moves (s : State) (sender : Ident) (seq : Byte) (total : Word) :
    Moves c q s (s.takeGate sender seq total).1 :=
  (setPeer_moves s sender { s.peers[sender] with gateSeq := some seq } (peerKept_of_eq rfl rfl rfl id)).trans
    (countGap_moves ..)

theorem correctGate_moves (s : State) (sender : Ident) (offset : Int) : Moves c q s (s.correctGate sender offset) := by
  have used (v : State) : Moves c q v { v with fusion.gateUsed := true } := track_moves v _ id
  unfold State.correctGate
  split
  · next live =>
    dsimp only
    split
    · exact (moveP_moves _ _ _ _ (live_stem live.1)).trans (used _)
    · exact (report_moves ..).trans (used _)
  · exact .refl

theorem writeStaged_moves (s : State) (sender : Ident) (entry : Byte) (e : CalEntry → Option CalEntry) :
    Moves c q s (s.writeStaged sender entry e) := by
  unfold State.writeStaged
  split
  · split
    · exact track_moves s _ id
    · exact report_moves ..
  · exact report_moves ..

/-! ### The Link Controller -/

theorem linkKept_vacate (l : Link) (src : TxSource) : LinkKept l (l.vacate src) := by
  cases src <;> exact ⟨id, id, id, id⟩

theorem cons_tail_length {α : Type} (x : α) {xs : List α} (h : xs.length ≤ 4) : (x :: xs.tail).length ≤ 4 := by
  cases xs <;> simp_all

theorem linkKept_putBack (l : Link) (src : TxSource) (f : TxFrame) : LinkKept l (l.putBack src f) := by
  cases src with
  | handshake => exact ⟨cons_tail_length f, id, id, id⟩
  | log => exact ⟨id, cons_tail_length f, id, id⟩
  | _ => exact ⟨id, id, id, id⟩

theorem linkKept_remove (l : Link) (src : TxSource) : LinkKept l (l.remove src) := by
  cases src with
  | handshake => exact ⟨fun h => by simp [Link.remove]; omega, id, id, id⟩
  | log => exact ⟨id, fun h => by simp [Link.remove]; omega, id, id⟩
  | _ => exact ⟨id, id, id, id⟩

theorem offer_moves (s : State) : Moves c q s { s with link := s.link.offer } := by
  unfold Link.offer
  split
  · next src f _ =>
    exact (Move.link s _ (linkKept_vacate s.link src)).one.trans (link_moves ..)
  · exact link_moves ..

theorem putBack_moves (s : State) (src : TxSource) (f : TxFrame) :
    Moves c q s { s with link := s.link.putBack src f } := (Move.link s _ (linkKept_putBack ..)).one

theorem remove_moves (s : State) (src : TxSource) : Moves c q s { s with link := s.link.remove src } :=
  (Move.link s _ (linkKept_remove ..)).one

theorem dropFrame_moves (s : State) (src : TxSource) (f : TxFrame) : Moves c q s (s.dropFrame src f) := by
  have dropped := (remove_moves (c := c) (q := q) s src).trans (report_moves _ .txFailing (some f.frame.cls) (some s.identity))
  unfold State.dropFrame
  dsimp only
  split
  · exact dropped.trans (repeatAnnounce_moves _)
  · exact dropped

theorem failCount_moves (s : State) :
    Moves c q s { s with link.onLine := none, link.txFailures := satAdd s.link.txFailures 1 } :=
  (Move.link s { s.link with onLine := none, txFailures := satAdd s.link.txFailures 1 }
    ⟨id, id, id, fun _ => satAdd_le _ _⟩).one

theorem failAttemptFrame_moves (s : State) (src : TxSource) (f : TxFrame) : Moves c q s (s.failAttempt src f) := by
  unfold State.failAttempt
  dsimp only
  split
  · exact (failCount_moves s).trans (putBack_moves ..)
  · exact (failCount_moves s).trans (dropFrame_moves ..)

theorem completeFrame_moves (s : State) (src : TxSource) (f : TxFrame) : Moves c q s (s.completeFrame src f) := by
  have completed : Moves c q s
      { s with link := { s.link.remove src with
        onLine := none, ownCompleted := some (f.frame.raw s.identity) } } :=
    (remove_moves s src).trans (link_moves _ { s.link.remove src with
        onLine := none, ownCompleted := some (f.frame.raw s.identity) })
  have started := completed.trans (startKeepAlive_moves _)
  unfold State.completeFrame
  dsimp only
  split
  · exact started.trans (repeatAnnounce_moves _)
  · exact started

/-! ### The Peer Table -/

theorem peerRestarted_moves (s : State) (sender : Ident) : Moves c q s (s.peerRestarted sender) :=
  ((report_moves ..).trans (setPeer_moves _ sender s.peers[sender].rebaseline
    (peerKept_of_eq rfl rfl rfl id))).trans (callAnnounce_moves _)

/-- An entry that is not the station's own keeps presence and gap count. -/
theorem peerKept_other {s : State} {i : Ident} {p : Peer} (other : i ≠ s.identity)
    (presence : p.presence = s.peers[i].presence) (gap : p.gapCount = s.peers[i].gapCount) : PeerKept s i p where
  self := presence.symm.trans
  own := fun same => absurd same other
  gapCount := fun h => gap.trans_le h

theorem announced_presence (p : Peer) (role : PeerRole) (phase : Phase) (stem : StemState) :
    (p.announced role phase stem).presence = p.presence := by
  unfold Peer.announced; dsimp only; split <;> rfl

theorem announced_gapCount (p : Peer) (role : PeerRole) (phase : Phase) (stem : StemState) :
    (p.announced role phase stem).gapCount = p.gapCount := by
  unfold Peer.announced; dsimp only; split <;> rfl

theorem judgeRole_moves (s : State) (sender : Ident) (role : PeerRole) (other : sender ≠ s.identity) :
    Moves c q s (s.judgeRole sender role) := by
  unfold State.judgeRole
  dsimp only
  split
  · split
    · exact .refl
    · exact (report_moves ..).trans (setPeer_moves _ sender _ (peerKept_other other rfl rfl))
  · exact setPeer_moves s sender _ (peerKept_other other rfl rfl)

theorem takeAnnounce_moves (s : State) (was : Peer) (sender : Ident) (role : PeerRole) (phase : Phase) (stem : StemState)
    (other : sender ≠ s.identity) : Moves c q s (s.takeAnnounce was sender role phase stem) := by
  have announced := setPeer_moves (c := c) (q := q) s sender (s.peers[sender].announced role phase stem)
    (peerKept_other other (announced_presence ..) (announced_gapCount ..))
  have called (v : State) :
      Moves c q v (if was.presence = .absent ∨ was.presence = .lost then v.callAnnounce else v) := by
    split
    · exact callAnnounce_moves v
    · exact .refl
  have calledIdentity (v : State) :
      (if was.presence = .absent ∨ was.presence = .lost then v.callAnnounce else v).identity = v.identity := by
    split <;> simp
  have restarted (v : State) :
      Moves c q v (if was.presence = .present ∧ was.phase = .operating ∧ phase = .start then v.peerRestarted sender else v) := by
    split
    · exact peerRestarted_moves ..
    · exact .refl
  have restartedIdentity (v : State) :
      (if was.presence = .present ∧ was.phase = .operating ∧ phase = .start then v.peerRestarted sender else v).identity =
        v.identity := by
    split <;> simp [State.peerRestarted]
  refine ((announced.trans (called _)).trans (restarted _)).trans (judgeRole_moves _ sender role ?_)
  rwa [restartedIdentity, calledIdentity]

/-! ### Queries, settings and release -/

theorem placeAnswer_moves (s : State) (item : QueryItem) (index : Byte) (content : Option (List Byte)) :
    Moves c q s (s.placeAnswer item index content) := by
  unfold State.placeAnswer
  split
  · exact link_moves ..
  · exact .refl

theorem query_moves (s : State) (t : Nat) (sender : Ident) (addressee : Byte) (item : QueryItem) (index : Byte)
    (content : State → Option (List Byte)) (silences : IdConflict s ⟨.query, sender, [addressee, byteOf item.code, index]⟩ → q) :
    Moves c q s (s.query t sender addressee item index content) := by
  refine observeFor_moves s t _ _ silences fun g hg => ?_
  cases hg
  dsimp only
  split
  · exact placeAnswer_moves ..
  · exact .refl

theorem enterOperating_moves (s : State) (start : s.phase = .start) : Moves c q s s.enterOperating := by
  have timed (v : State) : Moves c q v
      { v with
        capture.sampleTimer := some (v.inMs v.settings.samplePeriod)
        fusion.closing := some (v.inMs (3 * v.settings.samplePeriod))
        saw.firstDelivery := decide (v.role = Role.saw) } :=
    ((capture_moves v { v.capture with sampleTimer := some (v.inMs v.settings.samplePeriod) }).trans
      (track_moves _ { v.fusion with closing := some (v.inMs (3 * v.settings.samplePeriod)) } id)).trans
      (delivery_moves _ _)
  have entered := ((Move.enterOperating (c := c) s start).one.trans (callAnnounce_moves _)).trans (timed _)
  unfold State.enterOperating
  dsimp only
  split
  · exact entered.trans (captureStop_moves ..)
  · exact entered

theorem prepareRelease_moves (s : State) (sender : Ident) : Moves c q s (s.prepareRelease sender) := by
  unfold State.prepareRelease
  split
  · exact .refl
  · next stopped =>
    split
    · exact report_moves ..
    · exact (Move.arm s _ stopped).one

theorem releasedStem_ne_noStem (s : State) : releasedStem s ≠ .noStem := by
  unfold releasedStem
  split
  · decide
  · split <;> decide
  · decide

theorem releaseStem_moves (s : State) : Moves c q s s.releaseStem := by
  unfold State.releaseStem
  split
  · exact (Move.enterStem s .running (by decide)).one.trans (activate_moves _)
  · next cutting => exact leaveCutting_moves s (releasedStem_ne_noStem s) (by rw [cutting]; decide)
  · exact .refl

@[simp] theorem judgePassed_output (s : State) (i : Fin 12) (o : Order) :
    (s.judgePassed i o).safety.output = s.safety.output := by
  unfold State.judgePassed State.placeHandshake
  split
  · split <;> [rfl; (split <;> rfl)]
  · rfl

@[simp] theorem activate_output (s : State) : s.activate.safety.output = s.safety.output := by
  obtain same | ⟨i, o, -, -, -, -, -, -, eq⟩ := activate_cases s
  · rw [same]
  · rw [eq]; simp

@[simp] theorem leaveCutting_output (s : State) (new : StemState) :
    (s.leaveCutting new).safety.output = s.safety.output := by
  unfold State.leaveCutting; split <;> simp

@[simp] theorem releaseStem_output (s : State) : s.releaseStem.safety.output = s.safety.output := by
  unfold State.releaseStem; split <;> simp

theorem releaseSaw_moves (s : State) (run : s.safety.output = .run) : Moves c q s s.releaseSaw := by
  unfold State.releaseSaw
  split
  · exact startHoming_moves s run
  · exact .refl

theorem confirmRelease_moves (s : State) {t : Nat} {i : Ident} (hc : c = .releaseConfirm t i) :
    Moves c q s s.confirmRelease := by
  unfold State.confirmRelease
  split
  · have released := (Move.disarm (c := c) (q := q) s).one.trans (Move.release { s with safety.arming := none } t i hc rfl).one
    dsimp only
    split
    · exact (released.trans (releaseStem_moves _)).trans (releaseSaw_moves _ (by simp))
    · exact (Move.disarm s).one
  · exact .refl

/-! ### The Valve Drivers -/

theorem channelBoundary_moves (s : State) (i : Fin 4) (raw : Raw) : Moves c q s (s.channelBoundary i raw) := by
  have loaded := (Move.channel (c := c) (q := q) s i s.settings s.now s.forcedOff (currentOf raw)).one
  unfold State.channelBoundary
  dsimp only
  split
  · exact loaded.trans (report_moves ..)
  · exact loaded

theorem valves_moves (s : State) (v : Valves) (h : v.channels = s.valves.channels := by rfl) :
    Moves c q s { s with valves := v } := (Move.valves s v h).one

/-! ### Every command -/

/-- The end of a command: what follows the state is brought up to date. -/
theorem done_moves {s v u : State} (h : Moves c q s v) (run : v.done = .next u) : Moves c q s u := by
  cases run
  exact h.trans (Move.refresh v).one

/-- A command's own frame, where it is an identity conflict, is one the command stands for. -/
theorem conflicts_of_frame {s : State} {f : RawFrame} (frame : observedFrame c = some f) (h : IdConflict s f) :
    Conflicts c s := ⟨f, frame, h⟩

/-- A heard frame whose handling is one operation. -/
theorem heardFrame_moves {s u : State} {t : Nat} {f : RawFrame} {g : State → State}
    (h : ∀ v : State, Moves c (Conflicts c s) v (g v)) (run : (s.observeFor t f (some g)).done = .next u)
    (frame : observedFrame c = some f := by rfl) : Moves c (Conflicts c s) s u :=
  done_moves (observeFor_moves s t f _ (conflicts_of_frame frame) fun _ hg => Option.mem_some.mp hg ▸ h _) run

/-- A heard frame taken in OPERATING alone. -/
theorem workingFrame_moves {s u : State} {t : Nat} {f : RawFrame} {g : State → State}
    (h : ∀ v : State, Moves c (Conflicts c s) v (g v))
    (run : (s.observeFor t f (some fun s => s.inOperating g)).done = .next u)
    (frame : observedFrame c = some f := by rfl) : Moves c (Conflicts c s) s u :=
  heardFrame_moves (fun v => inOperating_moves v g fun _ => h v) run frame

/-- A heard frame of the open stem. -/
theorem stemFrame_moves {s u : State} {t : Nat} {f : RawFrame} {serial : Half} {g : State → State}
    (h : ∀ v : State, v.stem.state ≠ .noStem → Moves c (Conflicts c s) v (g v))
    (run : (s.observeFor t f (some fun s => s.inStem serial g)).done = .next u)
    (frame : observedFrame c = some f := by rfl) : Moves c (Conflicts c s) s u :=
  heardFrame_moves (fun v => inStem_moves v serial g fun stem _ => h v stem) run frame

/-- A heard frame with a coded field outside its table. -/
theorem uncodedFrame_moves {s u : State} {t : Nat} {f : RawFrame} (run : (s.observeFor t f none).done = .next u)
    (frame : observedFrame c = some f := by rfl) : Moves c (Conflicts c s) s u :=
  done_moves (observeFor_moves s t f none (conflicts_of_frame frame) fun _ hg => by cases hg) run

theorem query_done_moves {s u : State} {t : Nat} {sender : Ident} {addressee : Byte} {item : QueryItem} {index : Byte}
    {content : State → Option (List Byte)} (run : (s.query t sender addressee item index content).done = .next u)
    (frame : observedFrame c = some ⟨.query, sender, [addressee, byteOf item.code, index]⟩ := by rfl) :
    Moves c (Conflicts c s) s u :=
  done_moves (query_moves _ _ _ _ _ _ _ (conflicts_of_frame frame)) run

theorem motion_moves {s u : State} {t : Nat} {sender : Ident} {seq : Byte} {total : Word} {contact : Byte}
    (run : execMotion t sender seq total contact s = .next u) :
    Moves (.motion t sender seq total contact) (Conflicts (.motion t sender seq total contact) s) s u := by
  refine done_moves (observe_moves s t _ _ (conflicts_of_frame rfl) ?_) run
  dsimp only
  split
  · split
    · exact (takeMotion_moves ..).trans (deliverWheel_moves ..)
    · exact .refl
  · exact .refl

theorem roller_moves {s u : State} {t : Nat} {sender : Ident} {seq : Byte} {left right : Word}
    (run : execRoller t sender seq left right s = .next u) :
    Moves (.roller t sender seq left right) (Conflicts (.roller t sender seq left right) s) s u := by
  refine done_moves (observe_moves s t _ _ (conflicts_of_frame rfl) ?_) run
  dsimp only
  split
  · exact (takeRoller_moves ..).trans (deliverRoller_moves ..)
  · exact .refl

theorem gate_moves {s u : State} {t : Nat} {sender : Ident} {seq : Byte} {total : Word}
    (run : execGate t sender seq total s = .next u) :
    Moves (.gate t sender seq total) (Conflicts (.gate t sender seq total) s) s u := by
  refine done_moves (observe_moves s t _ _ (conflicts_of_frame rfl) ?_) run
  dsimp only
  split
  · have taken := takeGate_moves (c := .gate t sender seq total) (q := Conflicts (.gate t sender seq total) s)
      (s.record t ⟨.gate, sender, [seq] ++ le32 total⟩) sender seq total
    split
    · exact taken.trans (inOperating_moves _ _ fun _ => correctGate_moves ..)
    · exact taken
  · exact .refl

theorem announce_moves {s u : State} {t : Nat} {sender : Ident} {role phase stem revision : Byte}
    (run : execAnnounce t sender role phase stem revision s = .next u) :
    Moves (.announce t sender role phase stem revision) (Conflicts (.announce t sender role phase stem revision) s) s u := by
  refine done_moves (observe_moves s t _ _ (conflicts_of_frame rfl) ?_) run
  dsimp only
  split
  · split
    · exact .refl
    · next other => exact takeAnnounce_moves _ _ _ _ _ _ other
  · exact .refl

theorem peerSilenceTimeout_moves {s u : State} {t : Nat} {peer : Ident}
    (run : execPeerSilenceTimeout t peer s = .next u) : Moves c q s u := by
  unfold execPeerSilenceTimeout at run
  dsimp only at run
  split at run
  · next heard _ =>
    split at run
    · next present =>
      have lost : PeerKept (s.clockDue t (heard + ms s.peers[peer].timeout)) peer s.peers[peer].lose :=
        { self := fun h => by cases h
          own := fun _ (self : s.peers[peer].presence = .self) => by rw [present.1] at self; cases self
          gapCount := id }
      have reported := ((clockDue_moves s t (heard + ms s.peers[peer].timeout)).trans
        (setPeer_moves (c := c) (q := q) _ peer _ lost)).trans (report_moves _ .peerLost none (some peer))
      refine done_moves ?_ run
      split
      · exact reported.trans (sawLost_moves ..)
      · exact reported
    · exact done_moves (clock_moves ..) run
  · exact done_moves (clock_moves ..) run

theorem chainRisingEdge_moves {s u : State} {t : Nat} (run : execChainRisingEdge t s = .next u) : Moves c q s u := by
  refine done_moves ?_ run
  split
  · split
    · exact (clock_moves s t).trans (capture_moves ..)
    · split
      · exact (clock_moves s t).trans (nextEdge_moves ..)
      · exact ((clock_moves s t).trans (expireChain_moves _)).trans (capture_moves ..)
  · exact clock_moves s t

theorem closingTimerExpiry_moves {s u : State} {t : Nat} (run : execClosingTimerExpiry t s = .next u) :
    Moves c q s u := by
  unfold execClosingTimerExpiry at run
  split at run
  · dsimp only at run
    split at run
    · exact done_moves ((clockDue_moves ..).trans (closeRoller_moves ..)) run
    · exact done_moves ((clockDue_moves ..).trans (closeEmpty_moves _)) run
  · exact done_moves (clock_moves ..) run

theorem diameterAged_moves {s u : State} {t : Nat} {src : DiameterSource} (run : execDiameterAged t src s = .next u) :
    Moves c q s u := by
  unfold execDiameterAged at run
  split at run
  · split at run
    · exact done_moves ((clockDue_moves ..).trans (recompute_moves _)) run
    · exact done_moves (clock_moves ..) run
  · exact done_moves (clock_moves ..) run

theorem sampleInstant_moves {s u : State} {t : Nat} {an0 an1 an2 an3 : Raw}
    (run : execSampleInstant t an0 an1 an2 an3 s = .next u) : Moves c q s u := by
  unfold execSampleInstant at run
  split at run
  · next due _ =>
    have sampled := ((clockDue_moves s t due).trans (capture_moves (c := c) (q := q) _
      { s.capture with sampleTimer := some ((s.clockDue t due).inMs s.settings.samplePeriod) })).trans
      ((convert_moves _ an0 an1 an2 an3).trans (publish_moves _))
    exact done_moves ((sampled.trans (deliverFlags_moves ..)).trans (approachStep_moves _)) run
  · exact done_moves (clock_moves ..) run

theorem pwmPeriodBoundary_moves {s u : State} {t : Nat} {cs0 cs1 cs2 cs3 : Raw}
    (run : execPwmPeriodBoundary t cs0 cs1 cs2 cs3 s = .next u) : Moves c q s u := by
  have begun := (clockDue_moves (c := c) (q := q) s t s.valves.pwmTimer).trans (valves_moves _
    { s.valves with
      periodStart := (s.clockDue t s.valves.pwmTimer).now
      periodMs := s.settings.pwmPeriod
      pwmTimer := (s.clockDue t s.valves.pwmTimer).inMs s.settings.pwmPeriod })
  exact done_moves ((((begun.trans (channelBoundary_moves _ 0 cs0)).trans (channelBoundary_moves _ 1 cs1)).trans
    (channelBoundary_moves _ 2 cs2)).trans (channelBoundary_moves _ 3 cs3)) run

theorem stopLineAssertion_moves {s u : State} {t : Nat} (run : execStopLineAssertion t s = .next u) : Moves c q s u := by
  have asserted := (clock_moves (c := c) (q := q) s t).trans (Move.stopLine _ true).one
  refine done_moves ?_ run
  split
  · exact clock_moves s t
  · dsimp only
    split
    · exact asserted.trans (captureStop_moves ..)
    · exact asserted

/-- A manual demand taken in RUN (R113). -/
theorem demand_moves (s : State) (demand : Int) (expiry : Option Nat) (run : s.safety.output = .run) :
    Moves c q s { s with feed.demand := demand, feed.expiry := expiry } :=
  (Move.feed s { s.feed with demand := demand, expiry := expiry }
    ⟨.inl, fun stopped => by (rw [run] at stopped; cases stopped), fun _ => id⟩).one

/-- The manual demand run out (R114). -/
theorem demandExpiry_moves (s : State) : Moves c q s { s with feed.demand := 0, feed.expiry := none } :=
  (Move.feed s { s.feed with demand := 0, expiry := none }
    ⟨.inl, fun _ _ ⟨manual, free, _, _⟩ => ⟨manual, free, rfl, rfl⟩, fun _ => id⟩).one

/-- Every command but RESET changes the state by a chain of moves. -/
theorem exec_moves {c : Instr} {s u : State} (notReset : ∀ pins, c ≠ .reset pins) (run : exec c s = .next u) :
    Moves c (Conflicts c s) s u := by
  cases c with
  | reset pins => exact absurd rfl (notReset pins)
  | quadratureTransition t ch l1 l2 =>
    refine done_moves ?_ run
    split <;> exact (clock_moves s t).trans (capture_moves ..)
  | chainRisingEdge => exact chainRisingEdge_moves run
  | chainPeriodExpiry =>
    simp only [exec, execChainPeriodExpiry] at run
    split at run
    · exact done_moves ((clockDue_moves ..).trans (expireChain_moves _)) run
    · exact done_moves (clock_moves ..) run
  | gateBlockEdge t =>
    refine done_moves ?_ run
    split
    · have blocked := (clock_moves (c := .gateBlockEdge t) (q := Conflicts (.gateBlockEdge t) s) s t).trans
        (capture_moves _ { s.capture with gateBlocked := true })
      dsimp only
      split
      · exact blocked.trans (publishGate_moves _)
      · exact blocked
    · exact clock_moves s t
  | gateClearEdge t =>
    refine done_moves ?_ run
    split
    · exact (clock_moves s t).trans (capture_moves ..)
    · exact clock_moves s t
  | stopLineAssertion => exact stopLineAssertion_moves run
  | stopLineInactive t => exact done_moves ((clock_moves s t).trans (Move.stopLine _ false).one) run
  | sampleInstant => exact sampleInstant_moves run
  | pwmPeriodBoundary => exact pwmPeriodBoundary_moves run
  | lineIdle t =>
    refine done_moves ?_ run
    split
    · exact (clock_moves s t).trans (link_moves ..)
    · split
      · exact (clock_moves s t).trans (offer_moves _)
      · exact clock_moves s t
  | arbitrationLost t =>
    refine done_moves ?_ run
    split
    · next src f _ => exact ((clock_moves s t).trans (putBack_moves _ src f)).trans (link_moves ..)
    · exact clock_moves s t
  | frameDisturbed t =>
    refine done_moves ?_ run
    split
    · exact (clock_moves s t).trans (failAttemptFrame_moves ..)
    · exact clock_moves s t
  | transmitComplete t =>
    refine done_moves ?_ run
    split
    · exact (clock_moves s t).trans (completeFrame_moves ..)
    · exact clock_moves s t
  | linkCheckFail t why =>
    have counted := (clock_moves (c := .linkCheckFail t why) (q := Conflicts (.linkCheckFail t why) s) s t).trans (Move.link (s.clock t)
      { s.link with lineIdle := false, checkFailures := satAdd s.link.checkFailures 1 }
      ⟨id, id, fun _ => satAdd_le _ _, id⟩).one
    exact done_moves (counted.trans (report_moves ..)) run
  | keepAliveExpiry =>
    simp only [exec, execKeepAliveExpiry] at run
    split at run
    · exact done_moves (((clockDue_moves ..).trans (callAnnounce_moves _)).trans (startKeepAlive_moves _)) run
    · exact done_moves (clock_moves ..) run
  | peerSilenceTimeout => exact peerSilenceTimeout_moves run
  | announce => exact announce_moves run
  | motion => exact motion_moves run
  | roller => exact roller_moves run
  | gate => exact gate_moves run
  | diameter => exact workingFrame_moves (fun v => takeDiameter_moves v _ _) run
  | diameterAged => exact diameterAged_moves run
  | closingTimerExpiry => exact closingTimerExpiry_moves run
  | stopNotice t i kind serial =>
    simp only [exec, execStopNotice] at run
    split at run
    · refine heardFrame_moves (fun v => ?_) run
      split
      · exact .refl
      · exact captureStop_moves ..
    · exact uncodedFrame_moves run
  | releasePrepare => exact workingFrame_moves (fun v => prepareRelease_moves v _) run
  | releaseArmingExpiry =>
    simp only [exec, execReleaseArmingExpiry] at run
    split at run
    · exact done_moves ((clockDue_moves ..).trans (Move.disarm _).one) run
    · exact done_moves (clock_moves ..) run
  | releaseConfirm => exact workingFrame_moves (fun v => confirmRelease_moves v rfl) run
  | holdRequest t i serial kind index =>
    simp only [exec, execHoldRequest] at run
    split at run
    · exact stemFrame_moves (fun v stem => (stem_moves v { v.stem with view := some _ } stem rfl rfl id).trans
        (yield_moves _ _ _ stem)) run
    · exact uncodedFrame_moves run
  | holdGrant t i serial kind index =>
    simp only [exec, execHoldGrant] at run
    split at run
    · exact stemFrame_moves (fun v _ => (stemGrant_moves v ..).trans (sawGrant_moves ..)) run
    · exact uncodedFrame_moves run
  | holdRelease t i serial kind index outcome =>
    simp only [exec, execHoldRelease] at run
    split at run
    · exact stemFrame_moves (fun v stem => (released_moves v _).trans (stemRelease_moves _ _ _ _ stem)) run
    · exact uncodedFrame_moves run
  | cutStart t i serial kind index attempt =>
    simp only [exec, execCutStart] at run
    split at run
    · exact stemFrame_moves (fun v stem => progressTo_moves v _ _ _ stem) run
    · exact uncodedFrame_moves run
  | cutDone t i serial kind index pAtCut =>
    simp only [exec, execCutDone] at run
    split at run
    · exact stemFrame_moves (fun v stem => takeCutDone_moves v _ _ _ stem) run
    · exact uncodedFrame_moves run
  | halted t i serial index p offsize =>
    simp only [exec, execHalted] at run
    split at run
    · exact stemFrame_moves (fun v stem => (sawHalted_moves v _ _ _ stem).trans (stemHalted_moves ..)) run
    · exact uncodedFrame_moves run
  | orderReject t i serial index reason =>
    simp only [exec, execOrderReject] at run
    split at run
    · exact stemFrame_moves (fun v _ => rejectOrder_moves v _) run
    · exact uncodedFrame_moves run
  | feedDemand =>
    refine workingFrame_moves (fun v => ?_) run
    split
    · next taken => exact demand_moves v _ _ taken.2
    · exact .refl
  | manualExpiry t =>
    simp only [exec, execManualExpiry] at run
    split at run
    · exact done_moves ((clockDue_moves ..).trans (demandExpiry_moves _)) run
    · exact done_moves (clock_moves ..) run
  | feedMode t i mode =>
    simp only [exec, execFeedMode] at run
    cases coded : FeedMode.ofCode mode with
    | none => rw [coded] at run; exact uncodedFrame_moves run
    | some m => rw [coded] at run; exact workingFrame_moves (fun v => setFeedMode_moves v _ _) run
  | cutCommand t i serial kind =>
    simp only [exec, execCutCommand] at run
    cases coded : CutKind.ofCode kind with
    | none => rw [coded] at run; exact uncodedFrame_moves run
    | some k => rw [coded] at run; exact stemFrame_moves (fun v stem => commandCut_moves v _ _ stem) run
  | stemOpen =>
    refine workingFrame_moves (fun v => ?_) run
    split
    · next noStem => exact (Move.openStem v _ noStem).one
    · exact report_moves ..
  | stemClose =>
    refine stemFrame_moves (fun v stem => ?_) run
    split
    · exact stem_moves v { v.stem with closePending := true } stem rfl rfl id
    · exact (Move.closeStem v).one
  | order => exact stemFrame_moves (fun v stem => takeOrder_moves v stem) run
  | calValue => exact heardFrame_moves (fun v => writeStaged_moves v _ _ _) run
  | calKey => exact heardFrame_moves (fun v => writeStaged_moves v _ _ _) run
  | clearFault t i a =>
    refine heardFrame_moves (fun v => ?_) run
    split
    · exact (Move.clearFault v t i a rfl).one
    · exact .refl
  | queryStation | queryTrack | queryFault | queryPeer | queryOrder | queryCal | queryLink => exact query_done_moves run
  | setup t i a item value =>
    refine heardFrame_moves (fun v => ?_) run
    split
    · split
      · next start =>
        unfold State.storeSetting
        split
        · next σ put => exact (Move.store v t i a item value rfl σ put start).one
        · exact report_moves ..
      · exact report_moves ..
    · exact .refl
  | setupEnd =>
    refine heardFrame_moves (fun v => ?_) run
    split
    · next start => exact enterOperating_moves v start
    · exact report_moves ..
  | otherFrameObserved t i cls payload => exact done_moves (observe_moves s t _ _ (conflicts_of_frame rfl) .refl) run
  | grantTimerExpiry t =>
    simp only [exec, execGrantTimerExpiry] at run
    split at run
    · exact done_moves ((clockDue_moves ..).trans (endHandshake_moves ..)) run
    · exact done_moves (clock_moves ..) run
  | chainTimerExpiry t =>
    simp only [exec, execChainTimerExpiry] at run
    split at run
    · next due timer =>
      exact done_moves ((clockDue_moves ..).trans (failAttempt_moves _ (chainTimer_not_idle (due := due) timer))) run
    · exact done_moves (clock_moves ..) run
  | cutTimerExpiry t =>
    simp only [exec, execCutTimerExpiry] at run
    split at run
    · next due timer =>
      exact done_moves ((clockDue_moves ..).trans (failAttempt_moves _ (cutTimer_not_idle (due := due) timer))) run
    · exact done_moves (clock_moves ..) run
  | returnTimerExpiry t =>
    simp only [exec, execReturnTimerExpiry] at run
    split at run
    · exact done_moves ((clockDue_moves ..).trans (captureStop_moves ..)) run
    · exact done_moves (clock_moves ..) run
  | knifeOpenTimerExpiry t =>
    simp only [exec, execKnifeOpenTimerExpiry] at run
    split at run
    · exact done_moves ((clockDue_moves ..).trans (valves_moves ..)) run
    · exact done_moves (clock_moves ..) run
  | wheelLiftTimerExpiry t =>
    simp only [exec, execWheelLiftTimerExpiry] at run
    split at run
    · exact done_moves ((clockDue_moves ..).trans (valves_moves ..)) run
    · exact done_moves (clock_moves ..) run

end Sys2Proof.Proofs.Effects
end

section
/-! PROOFS. The settings as a list of 43 values, so that reading an item after storing one is a fact about lists (R173,
R176). -/

namespace Sys2Proof.Proofs.SettingItems

open Sys2Proof.Machine

/-- The values of the settings in the order of their items. -/
def values (σ : Settings) : List Nat :=
  [σ.samplePeriod, σ.silenceTimeout, σ.wheelScale, σ.rollerScale, σ.slipAllowance, σ.slipProportion, σ.gateOffset,
    σ.gateWindow, σ.topDiameter, σ.topTravel, σ.diameterZero, σ.diameterSpan, σ.contactThreshold, σ.brakeDistance,
    σ.haltWindow, σ.fullDuty, σ.creepDuty, σ.haltAttempts, σ.reverseLimit, σ.manualExpiry, σ.grantTimeout,
    σ.chainThreshold, σ.chainTimeout, σ.cutTimeout, σ.returnTimeout, σ.cutRetries, σ.barEndThreshold,
    σ.barHomeThreshold, σ.pwmPeriod, σ.deadInterval, σ.overloadLimit, σ.overloadCount, σ.knifeBase, σ.knifeSlope,
    σ.knifeGripDuty, σ.knifeOpenTime, σ.rollerGripDuty, σ.wheelPressDuty, σ.wheelLiftDuty, σ.wheelLiftTime, σ.barDuty,
    σ.chainDuty, σ.disputeMargin]

theorem values_length (σ : Settings) : (values σ).length = 43 := rfl

/-- An item reads the value at its place. -/
theorem get_eq (σ : Settings) (item : Nat) : σ.get item = if item = 0 then none else (values σ)[item - 1]? := by
  by_cases bound : item < 44
  · interval_cases item <;> rfl
  · obtain ⟨k, rfl⟩ := Nat.exists_eq_add_of_le' (Nat.le_of_not_lt bound)
    rfl

/-- Storing an item replaces the value at its place. -/
theorem values_set (σ : Settings) {item : Nat} (v : Nat) (low : 1 ≤ item) (high : item ≤ 43) :
    values (σ.set item v) = (values σ).set (item - 1) v := by
  interval_cases item <;> rfl

theorem get_set_same (σ : Settings) {item : Nat} (v : Nat) (low : 1 ≤ item) (high : item ≤ 43) :
    (σ.set item v).get item = some v := by
  rw [get_eq, if_neg (by omega), values_set σ v low high, List.getElem?_set_self (by rw [values_length]; omega)]

theorem get_set_other (σ : Settings) {item k : Nat} (v : Nat) (low : 1 ≤ item) (high : item ≤ 43) (other : k ≠ item) :
    (σ.set item v).get k = σ.get k := by
  rw [get_eq, get_eq]
  split
  · rfl
  · rw [values_set σ v low high, List.getElem?_set_ne (by omega)]

/-- An item has a range exactly when it names a setting (R176). -/
theorem range_some_iff (item : Nat) : (Settings.range item).isSome = true ↔ 1 ≤ item ∧ item ≤ 43 := by
  by_cases bound : item < 44
  · interval_cases item <;> decide
  · obtain ⟨k, rfl⟩ := Nat.exists_eq_add_of_le' (Nat.le_of_not_lt bound)
    simp [Settings.range]

theorem item_of_range {item : Nat} {r : Nat × Nat} (h : Settings.range item = some r) : 1 ≤ item ∧ item ≤ 43 :=
  (range_some_iff item).mp (by rw [h]; rfl)

theorem range_none {item : Nat} (h : item = 0 ∨ 44 ≤ item) : Settings.range item = none := by
  rw [← Option.not_isSome_iff_eq_none, range_some_iff]
  omega

/-- Every range is one: its lower end is not above its upper end (R176). -/
theorem range_le {item lo hi : Nat} (h : Settings.range item = some (lo, hi)) : lo ≤ hi := by
  obtain ⟨low, high⟩ := item_of_range h
  interval_cases item <;> cases h <;> decide

theorem clampNat_range {lo hi : Nat} (v : Nat) (h : lo ≤ hi) : lo ≤ clampNat lo hi v ∧ clampNat lo hi v ≤ hi := by
  unfold clampNat; omega

/-- What a SETUP that is taken stores (R173). -/
theorem put_eq_some {σ σ' : Settings} {item v : Nat} (h : σ.put item v = some σ') :
    ∃ lo hi, Settings.range item = some (lo, hi) ∧ σ' = σ.set item (clampNat lo hi v) := by
  unfold Settings.put at h
  split at h
  · cases h
  · next lo hi range => exact ⟨lo, hi, range, (Option.some.inj h).symm⟩

/-- Every setting lies in its range. -/
def InRange (σ : Settings) : Prop :=
  ∀ item v lo hi, σ.get item = some v → Settings.range item = some (lo, hi) → lo ≤ v ∧ v ≤ hi

theorem put_keeps_inRange {σ σ' : Settings} {item v : Nat} (h : σ.put item v = some σ') (inRange : InRange σ) :
    InRange σ' := by
  obtain ⟨lo, hi, range, rfl⟩ := put_eq_some h
  obtain ⟨low, high⟩ := item_of_range range
  intro k w lo' hi' held range'
  by_cases same : k = item
  · subst same
    rw [get_set_same σ _ low high] at held
    rw [range] at range'
    cases held
    cases range'
    exact clampNat_range v (range_le range)
  · rw [get_set_other σ _ low high same] at held
    exact inRange k w lo' hi' held range'

theorem defaults_inRange : InRange Settings.defaults := by
  intro item v lo hi held range
  obtain ⟨low, high⟩ := item_of_range range
  interval_cases item <;> cases held <;> cases range <;> decide

end Sys2Proof.Proofs.SettingItems
end

section
/-! PROOFS. The state at the end of a reset (R170 and the reset tables of the chapters). -/

namespace Sys2Proof.Proofs.Reset

open Sys2Proof.Machine
open Sys2Proof.Proofs.SettingItems (defaults_inRange)

/-! ### Nothing that follows the state has to be brought up to date after a reset -/

theorem boot_ownerDuty (pins : Pins) (q : List Instr) (i : Fin 4) : (State.boot pins q).ownerDuty i = 0 := by
  obtain ⟨role1, role0, _, _, _, _, _, _, _, _⟩ := pins
  cases role1 <;> cases role0 <;> fin_cases i <;> rfl

theorem boot_feedDuty (pins : Pins) (q : List Instr) : (State.boot pins q).feedDutyNow = 0 :=
  FeedControl.feedDutyNow_not_operating (by simp [State.boot])

theorem boot_gripDuty (pins : Pins) (q : List Instr) : (State.boot pins q).gripDutyNow = 0 := by
  simp [State.gripDutyNow, State.boot, StemUnit.reset]

theorem boot_barDuty (pins : Pins) (q : List Instr) : (State.boot pins q).barDutyNow = 0 := by
  unfold State.barDutyNow; split <;> rfl

theorem boot_chainDuty (pins : Pins) (q : List Instr) : (State.boot pins q).chainDutyNow = 0 := by
  unfold State.chainDutyNow; split <;> rfl

theorem boot_channel (pins : Pins) (q : List Instr) (i : Fin 4) :
    (State.boot pins q).valves.channels[i] = Channel.reset := by
  simp [State.boot]

theorem boot_channels_follow (pins : Pins) (q : List Instr) :
    (Vector.ofFn fun i => (State.boot pins q).valves.channels[i].follow (State.boot pins q).forcedOff
      (State.boot pins q).now ((State.boot pins q).ownerDuty i)) = (State.boot pins q).valves.channels := by
  ext i h
  rw [Vector.getElem_ofFn, boot_ownerDuty]
  have channel := boot_channel pins q ⟨i, h⟩
  simp only [Fin.getElem_fin] at channel ⊢
  rw [channel]
  rfl

/-- The own entry after a reset. -/
theorem boot_self (pins : Pins) (q : List Instr) :
    (State.boot pins q).peers[(State.boot pins q).identity] =
      { Peer.reset with presence := .self, role := .d226 (State.boot pins q).role } := by
  simp [State.boot]

theorem boot_other (pins : Pins) (q : List Instr) {i : Fin 8} (other : i ≠ (State.boot pins q).identity) :
    (State.boot pins q).peers[i] = Peer.reset := by
  have different : ((State.boot pins q).identity : Nat) ≠ i := fun same => other (Fin.ext same.symm)
  exact (Vector.getElem_set_ne (State.boot pins q).identity.isLt i.isLt different).trans (by simp)

theorem boot_peers_follow (pins : Pins) (q : List Instr) :
    (State.boot pins q).peers.set (State.boot pins q).identity
      { (State.boot pins q).peers[(State.boot pins q).identity] with
        phase := (State.boot pins q).phase, stem := (State.boot pins q).stem.state } = (State.boot pins q).peers := by
  rw [boot_self]
  simp only [State.boot, Vector.set_set]
  rfl

/-- A station just reset is settled. -/
theorem boot_refresh (pins : Pins) (q : List Instr) : (State.boot pins q).refresh = State.boot pins q := by
  unfold State.refresh
  rw [boot_feedDuty, boot_gripDuty, boot_barDuty, boot_chainDuty, boot_channels_follow, boot_peers_follow]
  rfl

theorem exec_reset (pins : Pins) (s : State) : exec (.reset pins) s = .next (State.boot pins s.pending) :=
  congrArg Host.Outcome.next (boot_refresh pins s.pending)

/-! ### What a reset sets -/

theorem boot_role_code (pins : Pins) (q : List Instr) :
    (State.boot pins q).role.code = 2 * pins.role1.toNat + pins.role0.toNat := by
  obtain ⟨role1, role0, _, _, _, _, _, _, _, _⟩ := pins
  cases role1 <;> cases role0 <;> rfl

theorem boot_identity_val (pins : Pins) (q : List Instr) :
    (State.boot pins q).identity.val = 4 * pins.id2.toNat + 2 * pins.id1.toNat + pins.id0.toNat := by
  obtain ⟨_, _, id2, id1, id0, _, _, _, _, _⟩ := pins
  cases id2 <;> cases id1 <;> cases id0 <;> rfl

theorem boot_chan (pins : Pins) (q : List Instr) (k : Fin 3) :
    ((State.boot pins q).chan k).mode = CapMode.ofRole (State.boot pins q).role k ∧
      ((State.boot pins q).chan k).total = 0 ∧ ((State.boot pins q).chan k).lastEdge = none ∧
      ((State.boot pins q).chan k).period = none := by
  fin_cases k <;> exact ⟨rfl, rfl, rfl, rfl⟩

/-- Settles O3: the state a reset answers is the one `State.boot` lists field by field, with nothing to bring up to date. -/
theorem resetStartsTheStation : Obligations.ResetStartsTheStation := by
  intro pins s
  refine ⟨_, exec_reset pins s, rfl, boot_role_code .., boot_identity_val .., rfl, rfl, rfl, rfl, rfl, rfl,
    boot_chan pins s.pending, rfl, rfl, rfl, rfl, rfl, rfl, rfl, rfl, rfl, rfl, rfl, rfl, rfl,
    fun i other => boot_other pins _ other, ?_, ?_, rfl, rfl, rfl, rfl, rfl, boot_channel pins s.pending,
    rfl, rfl, rfl, rfl, rfl⟩
  · rw [boot_self]
  · rw [boot_self]

/-! ### The invariants hold after a reset -/

section Invariants

variable (pins : Pins) (q : List Instr)

theorem boot_trackInRange : (State.boot pins q).TrackInRange :=
  ⟨(by decide : Config.pMin ≤ 0), (by decide : (0 : Int) ≤ Config.pMax)⟩

theorem boot_queuesBounded : (State.boot pins q).QueuesBounded := ⟨Nat.zero_le _, Nat.zero_le _, Nat.zero_le _⟩

theorem boot_peer_presence_self {i : Fin 8} (h : (State.boot pins q).peers[i].presence = .self) :
    i = (State.boot pins q).identity := by
  by_contra other
  rw [boot_other pins q other] at h
  cases h

theorem boot_gapCount (i : Fin 8) : (State.boot pins q).peers[i].gapCount = 0 := by
  by_cases own : i = (State.boot pins q).identity
  · rw [own, boot_self]; rfl
  · rw [boot_other pins q own]; rfl

theorem boot_countsBounded : (State.boot pins q).CountsBounded :=
  ⟨Nat.zero_le _, Nat.zero_le _, fun i => (boot_gapCount pins q i).trans_le (Nat.zero_le _), Nat.zero_le _,
    Nat.zero_le _, Nat.zero_le _, Nat.zero_le _, Nat.zero_le _, Nat.zero_le _, Nat.zero_le _⟩

theorem boot_orders (i : Fin 12) : (State.boot pins q).stem.orders[i] = none := by
  simp [State.boot, StemUnit.reset]

theorem boot_oneActive : (State.boot pins q).OneActive := by
  intro i j active
  rw [boot_orders] at active
  cases active

theorem boot_buckets (k : Fin 400) : (State.boot pins q).profile.buckets[k] = none := by
  simp [State.boot, Profile.reset]

theorem boot_noStemIsEmpty : (State.boot pins q).NoStemIsEmpty := fun _ =>
  ⟨rfl, rfl, boot_orders pins q, rfl, rfl, rfl, rfl, boot_buckets pins q, rfl, (fun h => by cases h)⟩

theorem boot_silentIsStill : (State.boot pins q).SilentIsStill := (fun h => by cases h)

theorem boot_stoppedIsIdle : (State.boot pins q).StoppedIsIdle := ⟨(fun h => by cases h), fun _ => rfl⟩

theorem boot_sawConsistent : (State.boot pins q).SawConsistent :=
  ⟨(fun h => by rcases h with h | h | h <;> cases h), fun _ => rfl, fun h => absurd rfl h, fun h => absurd rfl h,
    fun h => absurd rfl h, fun h => absurd rfl h⟩

theorem boot_autoIsReady : (State.boot pins q).AutoIsReady := fun h => by cases h

theorem boot_selfIsOwn : (State.boot pins q).SelfIsOwn :=
  have own := boot_self pins q
  ⟨congrArg Peer.presence own, congrArg Peer.role own, congrArg Peer.conflict own, fun _ => boot_peer_presence_self pins q⟩

theorem boot_channelsSound : (State.boot pins q).ChannelsSound := by
  intro i
  rw [boot_channel]
  exact ⟨(fun h => by cases h), (fun h => by cases h), (fun h => by cases h)⟩

end Invariants

/-- Settles O52: `State.boot` meets every invariant for any pins; the model's reset state is the one of one board. -/
theorem resetMeetsEveryInvariant : Obligations.ResetMeetsEveryInvariant := by
  unfold Obligations.ResetMeetsEveryInvariant
  intro meets
  have boot (pins : Pins) (q : List Instr) : meets (State.boot pins q) :=
    ⟨boot_refresh pins q, boot_trackInRange pins q, boot_queuesBounded pins q, boot_countsBounded pins q,
      defaults_inRange, boot_oneActive pins q, boot_noStemIsEmpty pins q, boot_silentIsStill pins q,
      boot_stoppedIsIdle pins q, boot_sawConsistent pins q, boot_autoIsReady pins q, boot_selfIsOwn pins q,
      boot_channelsSound pins q⟩
  refine ⟨boot Pins.board [], fun pins s u run => ?_⟩
  rw [exec_reset] at run
  cases run
  exact boot pins s.pending

end Sys2Proof.Proofs.Reset
end

section
/-! PROOFS. The invariants of every step: each is checked once per move, and once for the state a reset answers. -/

namespace Sys2Proof.Proofs.Invariants

open Sys2Proof.Machine Sys2Proof.Proofs.Effects
open Sys2Proof.Proofs.Reset Sys2Proof.Proofs.SettingItems

variable {c : Instr} {q : Prop} {s u : State}

/-- What every move keeps, a chain of moves keeps. -/
theorem keep_of_moves {P : State → Prop} (move : ∀ {v w : State}, Move c q v w → P v → P w) (run : Moves c q s u) (h : P s) :
    P u := by
  induction run with
  | refl => exact h
  | tail _ last ih => exact move last ih

/-- A step keeps what a reset sets, every move keeps, and the queue of commands does not decide. -/
theorem step_keeps {P : State → Prop} (queue : ∀ (v : State) (q : List Instr), P v → P { v with pending := q })
    (boot : ∀ pins q, P (State.boot pins q)) (move : ∀ {c : Instr} {q : Prop} {v w : State}, Move c q v w → P v → P w)
    (run : step s = .next u) (h : P s) : P u := by
  unfold step at run
  split at run
  · cases run; exact h
  · next c rest _ =>
    by_cases isReset : ∃ pins, c = .reset pins
    · obtain ⟨pins, rfl⟩ := isReset
      rw [exec_reset] at run
      cases run
      exact boot pins _
    · exact keep_of_moves move (exec_moves (fun pins same => isReset ⟨pins, same⟩) run) (queue s rest h)

/-! ### The bounds -/

theorem trackInRange_zero {v : State} (h : v.fusion.p = 0) : v.TrackInRange := by
  unfold State.TrackInRange
  rw [h]
  decide

theorem trackInRange_move (m : Move c q s u) (h : s.TrackInRange) : u.TrackInRange := by
  cases m with
  | track f kept => exact kept.inRange h
  | enterStem new open_ =>
    have same : (s.enterStem new).fusion = s.fusion := if_neg open_
    unfold State.TrackInRange
    rwa [same]
  | closeStem => exact trackInRange_zero rfl
  | openStem serial => exact trackInRange_zero rfl
  | _ => exact h

theorem queuesBounded_move (m : Move c q s u) (h : s.QueuesBounded) : u.QueuesBounded := by
  obtain ⟨handshake, log, ring⟩ := h
  cases m with
  | link l kept => exact ⟨kept.handshake handshake, kept.logFifo log, ring⟩
  | track f kept => exact ⟨handshake, log, kept.ring ring⟩
  | enterStem new open_ =>
    have same : (s.enterStem new).fusion = s.fusion := if_neg open_
    exact ⟨handshake, log, same ▸ ring⟩
  | openStem serial => exact ⟨handshake, log, Nat.zero_le _⟩
  | enterSilent => exact ⟨Nat.zero_le _, Nat.zero_le _, ring⟩
  | _ => exact ⟨handshake, log, ring⟩

theorem takeCapture_laterCount {held new : FaultRecord} (heldCount : held.laterCount ≤ 255) (newCount : new.laterCount ≤ 255) :
    (takeCapture held new).laterCount ≤ 255 := by
  unfold takeCapture
  split
  · exact newCount
  · split
    · exact heldCount
    · exact satAdd_le ..

/-- The counts of the track after the entry into NO STEM, and after a new stem. -/
theorem counted_leave {f : Fusion} : TrackCounted f → TrackCounted f.leave :=
  fun ⟨frames, run, empty, _, _⟩ => ⟨frames, run, empty, Nat.zero_le _, Nat.zero_le _⟩

theorem counted_open (f : Fusion) : TrackCounted f.open_ :=
  ⟨Nat.zero_le _, Nat.zero_le _, Nat.zero_le _, Nat.zero_le _, Nat.zero_le _⟩

theorem clear_laterCount {u : SafetyUnit} (h : u.record.laterCount ≤ 255) : u.clear.record.laterCount ≤ 255 := by
  by_cases empty : u.record.severity = .none
  · rwa [SafetyFault.clear_of_empty empty]
  · rw [SafetyFault.clear_of_held empty]; exact Nat.zero_le _

/-- The Stem and Order Unit at the entry into STOPPED (R102): orders, view and nothing else. -/
theorem stop_cases (u : StemUnit) :
    u.stop = { u with view := none } ∨
      ∃ i, u.stop = { u with view := none, orders := finishOrder u.orders (some i) .interrupted } := by
  unfold StemUnit.stop
  split
  · next i _ =>
    split
    · exact .inr ⟨i, rfl⟩
    · exact .inl rfl
  · exact .inl rfl

theorem stop_finished (u : StemUnit) : Finished u.orders u.stop.orders := by
  obtain same | ⟨i, finished⟩ := stop_cases u
  · rw [same]; exact ⟨fun _ => .inl rfl⟩
  · rw [finished]; exact finished_finishOrder _ (some i) nofun

theorem stop_logNumber (u : StemUnit) : u.stop.logNumber = u.logNumber := by
  obtain same | ⟨i, finished⟩ := stop_cases u
  · rw [same]
  · rw [finished]

/-- The counts, block by block. -/
structure Counted (v : State) : Prop where
  checkFailures : v.link.checkFailures ≤ 255
  txFailures : v.link.txFailures ≤ 255
  gapCount : ∀ i : Fin 8, v.peers[i].gapCount ≤ 255
  track : TrackCounted v.fusion
  logNumber : v.stem.logNumber ≤ 255
  laterCount : v.safety.record.laterCount ≤ 255

theorem countsBounded_iff (v : State) : v.CountsBounded ↔ Counted v :=
  ⟨fun ⟨check, tx, gap, frames, run, empty, log, nonWheel, number, later⟩ =>
    ⟨check, tx, gap, ⟨frames, run, empty, log, nonWheel⟩, number, later⟩,
   fun ⟨check, tx, gap, ⟨frames, run, empty, log, nonWheel⟩, number, later⟩ =>
    ⟨check, tx, gap, frames, run, empty, log, nonWheel, number, later⟩⟩

/-- An entry of the Peer Table after one is replaced. -/
theorem getElem_setPeer (s : State) (i j : Ident) (p : Peer) : (s.setPeer i p).peers[j] = if j = i then p else s.peers[j] := by
  by_cases h : j = i
  · subst h; simp
  · have different : (i : Nat) ≠ j := fun e => h (Fin.ext e.symm)
    simp [h, different]

/-- The own entry follows phase and stem state; the others stand. -/
theorem getElem_refresh_peers (s : State) (j : Ident) :
    s.refresh.peers[j] =
      if j = s.identity then { s.peers[s.identity] with phase := s.phase, stem := s.stem.state } else s.peers[j] :=
  getElem_setPeer s s.identity j _

theorem counted_move (m : Move c q s u) (h : Counted s) : Counted u := by
  cases m with
  | link l kept => exact { h with checkFailures := kept.checkFailures h.checkFailures, txFailures := kept.txFailures h.txFailures }
  | peer i p kept =>
    refine { h with gapCount := fun j => ?_ }
    rw [getElem_setPeer]
    split
    · exact kept.gapCount (h.gapCount i)
    · exact h.gapCount j
  | track f kept => exact { h with track := kept.counted h.track }
  | stem f kept => exact { h with logNumber := kept.logNumber h.logNumber }
  | report k cls sender => exact { h with laterCount := takeCapture_laterCount h.laterCount (Nat.zero_le _) }
  | clearFault => exact { h with laterCount := clear_laterCount h.laterCount }
  | stop =>
    exact { h with logNumber := (stop_logNumber s.stem).trans_le h.logNumber }
  | enterStem new open_ =>
    have same : (s.enterStem new).fusion = s.fusion := if_neg open_
    exact { h with track := same ▸ h.track }
  | closeStem => exact { h with track := counted_leave h.track }
  | openStem serial => exact { h with track := counted_open _, logNumber := Nat.zero_le _ }
  | refresh =>
    refine { h with gapCount := fun j => ?_ }
    rw [getElem_refresh_peers]
    split
    · exact h.gapCount _
    · exact h.gapCount j
  | _ => exact { h with }

theorem settingsInRange_move (m : Move c q s u) (h : s.SettingsInRange) : u.SettingsInRange := by
  cases m with
  | store t i a item v hc σ put start => exact put_keeps_inRange put h
  | _ => exact h

/-- Settles O53: each bound is checked on every move of a command and on the state a reset answers. -/
theorem everyStepKeepsTheBounds : Obligations.EveryStepKeepsTheBounds := fun _ _ run =>
  ⟨step_keeps (fun _ _ => id) boot_trackInRange trackInRange_move run,
    step_keeps (fun _ _ => id) boot_queuesBounded queuesBounded_move run,
    step_keeps (fun _ _ => id) boot_countsBounded
      (fun m h => (countsBounded_iff _).mpr (counted_move m ((countsBounded_iff _).mp h))) run,
    step_keeps (fun _ _ => id) (fun _ _ => defaults_inRange) settingsInRange_move run⟩

end Sys2Proof.Proofs.Invariants
end

section
/-! PROOFS. The invariants of the stem, the modes, the SELF entry and the channels, and what stands until its own command. -/

namespace Sys2Proof.Proofs.Invariants

open Sys2Proof.Machine Sys2Proof.Proofs.Effects
open Sys2Proof.Proofs.Reset Sys2Proof.Proofs.SettingItems

variable {c : Instr} {q : Prop} {s u : State}

/-! ### The stem -/

theorem none_of_replicate (i : Fin 12) : (Vector.replicate 12 (none : Option Order))[i] = none := by simp

theorem singleActive_none {orders : Vector (Option Order) 12} (empty : ∀ i : Fin 12, orders[i] = none) :
    SingleActive orders := by
  intro i _ active
  rw [empty i] at active
  cases active

theorem oneActive_move (m : Move c q s u) (h : s.OneActive) : u.OneActive := by
  cases m with
  | stem v kept => exact kept.active h
  | order _ _ _ _ _ _ _ _ _ _ i o pending stem => exact singleActive_set_pending i pending h
  | stop => exact (stop_finished s.stem).single h
  | closeStem => exact singleActive_none none_of_replicate
  | openStem serial => exact singleActive_none none_of_replicate
  | _ => exact h

/-- A station that has no stem open holds nothing of one. -/
structure EmptyStation (v : State) : Prop where
  p : v.fusion.p = 0
  zeroed : v.fusion.zeroed = false
  unit : StemEmpty v.stem
  thinTravel : v.profile.thinTravel = 0
  buckets : ∀ k : Fin 400, v.profile.buckets[k] = none
  hold : v.feed.hold = .free
  saw : v.saw.state ≠ .requested

theorem noStemIsEmpty_iff (v : State) : v.NoStemIsEmpty ↔ (v.stem.state = .noStem → EmptyStation v) :=
  forall_congr' fun _ =>
    ⟨fun ⟨p, zeroed, orders, view, close, ret, thin, buckets, hold, saw⟩ =>
      ⟨p, zeroed, ⟨orders, view, close, ret⟩, thin, buckets, hold, saw⟩,
     fun ⟨p, zeroed, ⟨orders, view, close, ret⟩, thin, buckets, hold, saw⟩ =>
      ⟨p, zeroed, orders, view, close, ret, thin, buckets, hold, saw⟩⟩

theorem stop_state (v : StemUnit) : v.stop.state = v.state := by
  obtain same | ⟨i, finished⟩ := stop_cases v
  · rw [same]
  · rw [finished]

theorem stop_empty {v : StemUnit} (h : StemEmpty v) : StemEmpty v.stop := by
  obtain ⟨orders, view, close, ret⟩ := h
  refine ⟨fun i => (stop_finished v).vacant i (orders i), ?_⟩
  obtain same | ⟨i, finished⟩ := stop_cases v
  · rw [same]; exact ⟨rfl, close, ret⟩
  · rw [finished]; exact ⟨rfl, close, ret⟩

/-- The entry into NO STEM empties the station (R76, R84, R87, R92, R124, R144). -/
theorem closeStem_empty (v : State) : EmptyStation v.closeStem where
  p := rfl
  zeroed := rfl
  unit := ⟨none_of_replicate, rfl, rfl, rfl⟩
  thinTravel := rfl
  buckets := clear_buckets v.profile
  hold := rfl
  saw := by
    show (if _ ∧ v.saw.state = .requested then v.saw.discard else v.saw).state ≠ .requested
    split
    · nofun
    · next other => exact fun requested => other ⟨rfl, requested⟩

theorem emptyStation_move (m : Move c q s u) (h : s.stem.state = .noStem → EmptyStation s) (noStem : u.stem.state = .noStem) :
    EmptyStation u := by
  cases m with
  | track f kept =>
    obtain ⟨p, zeroed⟩ := kept.noStem noStem
    exact { h noStem with p := p.trans (h noStem).p, zeroed := zeroed.trans (h noStem).zeroed }
  | loseTrack => exact { h noStem with zeroed := rfl, hold := (toManual_hold _).trans (h noStem).hold }
  | profile p kept =>
    exact { h noStem with
      thinTravel := kept.thinTravel noStem (h noStem).thinTravel, buckets := kept.buckets noStem (h noStem).buckets }
  | stem v kept =>
    have before : s.stem.state = .noStem := kept.state.symm.trans noStem
    exact { h before with unit := kept.empty before (h before).unit }
  | order _ _ _ _ _ _ _ _ _ _ i o pending stem => exact absurd noStem stem
  | feed f kept => exact { h noStem with hold := kept.hold noStem (h noStem).hold }
  | saw x kept => exact { h noStem with saw := kept.requested noStem (h noStem).saw }
  | stop =>
    have before : s.stem.state = .noStem := (stop_state s.stem).symm.trans noStem
    refine { h before with unit := stop_empty (h before).unit, hold := ?_, saw := ?_ }
    · show (if s.role = .feed then s.feed.stop else s.feed).hold = .free
      split
      · rfl
      · exact (h before).hold
    · show (if s.role = .saw then s.saw.discard else s.saw).state ≠ .requested
      split
      · nofun
      · exact (h before).saw
  | enterStem new open_ => exact absurd noStem open_
  | closeStem => exact closeStem_empty s
  | openStem serial => cases noStem
  | _ => exact { h noStem with }

/-- Settles O54: both invariants are checked on every move and on the state a reset answers. -/
theorem everyStepKeepsTheStemConsistent : Obligations.EveryStepKeepsTheStemConsistent := fun _ _ run =>
  ⟨step_keeps (fun _ _ => id) boot_oneActive oneActive_move run,
    step_keeps (fun _ _ => id) boot_noStemIsEmpty
      (fun m h => (noStemIsEmpty_iff _).mpr (emptyStation_move m ((noStemIsEmpty_iff _).mp h))) run⟩

/-! ### The modes -/

theorem autoIsReady_manual {v : State} (manual : v.feed.mode = .manual) : v.AutoIsReady := by
  intro auto
  rw [manual] at auto
  cases auto

theorem clear_output (v : SafetyUnit) : v.clear.output = v.output := by
  unfold SafetyUnit.clear; split <;> rfl

theorem clear_arming (v : SafetyUnit) : v.clear.arming = v.arming := by
  unfold SafetyUnit.clear; split <;> rfl

theorem autoIsReady_move (m : Move c q s u) (h : s.AutoIsReady) : u.AutoIsReady := by
  cases m with
  | track f kept =>
    intro auto
    obtain ⟨role, run, zeroed, stem⟩ := h auto
    exact ⟨role, run, kept.zeroed zeroed, stem⟩
  | loseTrack => exact autoIsReady_manual (toManual_mode _)
  | stem v kept =>
    intro auto
    obtain ⟨role, run, zeroed, stem⟩ := h auto
    exact ⟨role, run, zeroed, kept.state ▸ stem⟩
  | feed f kept =>
    intro auto
    obtain before | ready := kept.auto auto
    · exact h before
    · exact ready
  | stop =>
    intro auto
    by_cases feed : s.role = .feed
    · have stopped : (if s.role = .feed then s.feed.stop else s.feed) = s.feed.stop := if_pos feed
      exact autoIsReady_manual (congrArg Feed.mode stopped) auto
    · have same : (if s.role = .feed then s.feed.stop else s.feed) = s.feed := if_neg feed
      exact absurd (h ((congrArg Feed.mode same).symm.trans auto)).1 feed
  | release t i hc disarmed =>
    intro auto
    obtain ⟨role, -, rest⟩ := h auto
    exact ⟨role, rfl, rest⟩
  | clearFault =>
    intro auto
    obtain ⟨role, run, rest⟩ := h auto
    exact ⟨role, (clear_output _).trans run, rest⟩
  | enterStem new open_ =>
    by_cases topped : new = .topped
    · exact autoIsReady_manual (by simp [State.enterStem, topped, toManual_mode])
    · have same : (s.enterStem new).feed = s.feed := by simp [State.enterStem, open_, topped]
      have track : (s.enterStem new).fusion = s.fusion := if_neg open_
      intro auto
      rw [same] at auto
      obtain ⟨role, run, zeroed, -⟩ := h auto
      exact ⟨role, run, by rwa [track], open_, topped⟩
  | closeStem => exact autoIsReady_manual (toManual_mode _)
  | openStem serial noStem =>
    intro auto
    obtain ⟨-, -, -, stem, -⟩ := h auto
    exact absurd noStem stem
  | _ => exact h

/-- A stopped station is idle, and an armed release belongs to STOPPED. -/
structure ModesSound (v : State) : Prop where
  feed : v.safety.output = .stopped → v.role = .feed → FeedIdle v.feed
  sawIdle : v.safety.output = .stopped → v.role = .saw → SawIdle v.saw
  armed : v.safety.output = .run → v.safety.arming = none
  saw : SawSound v.saw

theorem modesSound_iff (v : State) : v.StoppedIsIdle ∧ v.SawConsistent ↔ ModesSound v :=
  ⟨fun ⟨⟨idle, armed⟩, saw⟩ => ⟨fun stopped => (idle stopped).1, fun stopped => (idle stopped).2, armed, saw⟩,
   fun ⟨feed, sawIdle, armed, saw⟩ => ⟨⟨fun stopped => ⟨feed stopped, sawIdle stopped⟩, armed⟩, saw⟩⟩

theorem sawSound_discard (x : Saw) : SawSound x.discard :=
  ⟨(by rintro (h | h | h) <;> cases h), fun _ => rfl, fun h => absurd rfl h, fun h => absurd rfl h,
    fun h => absurd rfl h, fun h => absurd rfl h⟩

theorem sawSound_silent {x : Saw} : SawSound x →
    SawSound { x with grantTimer := none, chainTimer := none, cutTimer := none, returnTimer := none } :=
  fun ⟨record, idle, _, _, _, _⟩ =>
    ⟨record, idle, fun h => absurd rfl h, fun h => absurd rfl h, fun h => absurd rfl h, fun h => absurd rfl h⟩

/-- The Feed Controller at a change of the stem state, as a stopped FEED station has it. -/
theorem enterStem_feedIdle {v : State} (new : StemState) (h : FeedIdle v.feed) : FeedIdle (v.enterStem new).feed := by
  show FeedIdle (if new = .noStem then v.feed.toManual.free else if new = .topped ∨ new = .noStem then v.feed.toManual else v.feed)
  split
  · exact free_idle (toManual_idle h)
  · split
    · exact toManual_idle h
    · exact h

theorem enterStem_saw (v : State) (new : StemState) : (v.enterStem new).saw = v.saw ∨ (v.enterStem new).saw = v.saw.discard := by
  show (if _ then v.saw.discard else v.saw) = _ ∨ (if _ then v.saw.discard else v.saw) = _
  split
  · exact .inr rfl
  · exact .inl rfl

theorem modesSound_enterStem {v : State} (new : StemState) (h : ModesSound v) : ModesSound (v.enterStem new) where
  feed stopped role := enterStem_feedIdle new (h.feed stopped role)
  sawIdle stopped role := by
    obtain same | discarded := enterStem_saw v new
    · rw [same]; exact h.sawIdle stopped role
    · rw [discarded]; exact ⟨rfl, rfl⟩
  armed := h.armed
  saw := by
    obtain same | discarded := enterStem_saw v new
    · rw [same]; exact h.saw
    · rw [discarded]; exact sawSound_discard _

theorem modesSound_move (m : Move c q s u) (h : ModesSound s) : ModesSound u := by
  cases m with
  | loseTrack => exact { h with feed := fun stopped role => toManual_idle (h.feed stopped role) }
  | feed f kept => exact { h with feed := fun stopped role => kept.stopped stopped role (h.feed stopped role) }
  | saw x kept =>
    exact { h with
      saw := kept.sound h.saw, sawIdle := fun stopped role => kept.stopped stopped role h.saw (h.sawIdle stopped role) }
  | disarm => exact { h with armed := fun _ => rfl }
  | arm due notRun => exact { h with armed := fun run => absurd run notRun }
  | stop =>
    refine ⟨fun _ role => ?_, fun _ role => ?_, nofun, ?_⟩
    · show FeedIdle (if s.role = .feed then s.feed.stop else s.feed)
      rw [if_pos role]; exact ⟨rfl, rfl, rfl, rfl⟩
    · show SawIdle (if s.role = .saw then s.saw.discard else s.saw)
      rw [if_pos role]; exact ⟨rfl, rfl⟩
    · show SawSound (if s.role = .saw then s.saw.discard else s.saw)
      split
      · exact sawSound_discard _
      · exact h.saw
  | release t i hc disarmed => exact { h with feed := nofun, sawIdle := nofun, armed := fun _ => disarmed }
  | clearFault =>
    have output := clear_output s.safety
    exact
      { feed := fun stopped => h.feed (output.symm.trans stopped)
        sawIdle := fun stopped => h.sawIdle (output.symm.trans stopped)
        armed := fun run => (clear_arming s.safety).trans (h.armed (output.symm.trans run))
        saw := h.saw }
  | enterStem new open_ => exact modesSound_enterStem new h
  | closeStem => exact modesSound_enterStem .noStem { h with }
  | openStem serial => exact modesSound_enterStem .gripped { h with }
  | enterSilent =>
    exact
      { feed := fun stopped role => by
          obtain ⟨manual, free, demand, -⟩ := h.feed stopped role
          exact ⟨manual, free, demand, rfl⟩
        sawIdle := h.sawIdle
        armed := fun _ => rfl
        saw := sawSound_silent h.saw }
  | _ => exact { h with }

/-- Settles O56: the idle modes and the sequencer's record and timers are kept together, since a move in STOPPED is idle only
on a sound sequencer. -/
theorem everyStepKeepsTheModesConsistent : Obligations.EveryStepKeepsTheModesConsistent := fun _ _ run =>
  ⟨fun stopped saw =>
    (modesSound_iff _).mpr
      (step_keeps (P := ModesSound) (fun _ _ h => { h with })
        (fun pins q => (modesSound_iff _).mp ⟨boot_stoppedIsIdle pins q, boot_sawConsistent pins q⟩) modesSound_move run
        ((modesSound_iff _).mp ⟨stopped, saw⟩)),
    step_keeps (fun _ _ => id) boot_autoIsReady autoIsReady_move run⟩

/-! ### The SELF entry -/

/-- An entry that the station's own entry becomes, and every other entry, leaves SELF with the own entry alone. -/
theorem selfIsOwn_of_entry {v : State} {i : Ident} {p : Peer} (h : v.SelfIsOwn) (kept : PeerKept v i p) :
    (v.setPeer i p).SelfIsOwn := by
  obtain ⟨presence, role, conflict, only⟩ := h
  have own : (v.setPeer i p).peers[v.identity].presence = .self ∧
      (v.setPeer i p).peers[v.identity].role = .d226 v.role ∧ (v.setPeer i p).peers[v.identity].conflict = false := by
    rw [getElem_setPeer]
    split
    · next same =>
      subst same
      obtain ⟨presence', role', conflict'⟩ := kept.own rfl presence
      exact ⟨presence', role'.trans role, conflict'.trans conflict⟩
    · exact ⟨presence, role, conflict⟩
  obtain ⟨presence', role', conflict'⟩ := own
  refine ⟨presence', role', conflict', fun j self => ?_⟩
  rw [getElem_setPeer] at self
  split at self
  · next same => exact same ▸ only i (kept.self self)
  · exact only j self

theorem selfIsOwn_move (m : Move c q s u) (h : s.SelfIsOwn) : u.SelfIsOwn := by
  cases m with
  | peer i p kept => exact selfIsOwn_of_entry h kept
  | refresh =>
    exact selfIsOwn_of_entry (p := { s.peers[s.identity] with phase := s.phase, stem := s.stem.state }) h
      (peerKept_of_eq rfl rfl rfl id)
  | _ => exact h

/-- Settles O57: only the moves of the Peer Table touch an entry, and each leaves the own entry what it is. -/
theorem everyStepKeepsTheSelfEntry : Obligations.EveryStepKeepsTheSelfEntry := fun _ _ h run =>
  step_keeps (fun _ _ => id) boot_selfIsOwn selfIsOwn_move run h

/-! ### The channels (R148, R151) -/

/-- A channel drives no side whose sign its active duty does not have, and none when latched. -/
def ChannelSound (ch : Channel) : Prop :=
  (ch.side = some .a → 0 < ch.active) ∧ (ch.side = some .b → ch.active < 0) ∧ (ch.latched = true → ch.side = none)

theorem channelSound_off {ch : Channel} (off : ch.side = none) : ChannelSound ch :=
  ⟨(by rw [off]; nofun), (by rw [off]; nofun), fun _ => off⟩

theorem switchOff_side (ch : Channel) (now : Nat) : (ch.switchOff now).side = none := by
  unfold Channel.switchOff
  split
  · rfl
  · assumption

theorem switchOff_latched (ch : Channel) (now : Nat) : (ch.switchOff now).latched = ch.latched := by
  unfold Channel.switchOff; split <;> rfl

theorem switchOff_active (ch : Channel) (now : Nat) : (ch.switchOff now).active = ch.active := by
  unfold Channel.switchOff; split <;> rfl

theorem follow_sound {ch : Channel} (forced : Bool) (now : Nat) (duty : Int) (h : ChannelSound ch) :
    ChannelSound (ch.follow forced now duty) := by
  unfold Channel.follow
  split
  · exact channelSound_off (switchOff_side ch now)
  · exact h

/-- A channel that drives the side of its active duty is sound when it is not latched. -/
theorem channelSound_of_sideOf {ch : Channel} (side : ch.side = sideOf ch.active) (unlatched : ch.latched = false) :
    ChannelSound ch := by
  unfold ChannelSound
  rw [side, unlatched]
  unfold sideOf
  split
  · exact ⟨nofun, nofun, nofun⟩
  · split
    · next positive => exact ⟨fun _ => positive, nofun, nofun⟩
    · exact ⟨nofun, fun _ => by omega, nofun⟩

theorem load_sound (ch : Channel) (σ : Settings) (now : Nat) (unlatched : ch.latched = false) : ChannelSound (ch.load σ now) := by
  unfold Channel.load
  dsimp only
  split
  · next same => exact channelSound_of_sideOf same unlatched
  · split
    · next side want =>
      split
      · refine channelSound_of_sideOf ?_ ((switchOff_latched _ now).trans unlatched)
        exact want.symm.trans (congrArg sideOf (switchOff_active { ch with active := ch.buffer } now).symm)
      · exact channelSound_off (switchOff_side ..)
    · exact channelSound_off (switchOff_side ..)

theorem boundary_sound {ch : Channel} (σ : Settings) (now : Nat) (forced : Bool) (current : Nat) (h : ChannelSound ch) :
    ChannelSound (ch.boundary σ now forced current).1 := by
  unfold Channel.boundary
  split
  · exact channelSound_off rfl
  · split
    · next latched =>
      have off : ch.side = none := h.2.2 latched
      split
      · exact channelSound_off off
      · exact channelSound_off off
    · next unlatched =>
      dsimp only
      split
      · exact channelSound_off (switchOff_side ch now)
      · exact load_sound _ σ now (Bool.eq_false_iff.mpr unlatched)

theorem channelsSound_move (m : Move c q s u) (h : s.ChannelsSound) : u.ChannelsSound := by
  cases m with
  | valves v same =>
    intro i
    show ChannelSound v.channels[i]
    rw [same]
    exact h i
  | channel i σ now forced current =>
    intro j
    show ChannelSound (s.valves.channels.set i _)[j]
    by_cases own : j = i
    · subst own
      simpa using boundary_sound σ now forced current (h j)
    · have different : (i : Nat) ≠ j := fun e => own (Fin.ext e.symm)
      have other : ChannelSound s.valves.channels[j] := h j
      simpa [different] using other
  | refresh =>
    intro i
    show ChannelSound (Vector.ofFn _)[i]
    simpa using follow_sound s.forcedOff s.now (s.ownerDuty i) (h i)
  | _ => exact h

/-- Settles O58: a channel is changed at its boundary and by following its owner alone, and both keep it sound. -/
theorem everyStepKeepsTheChannelsSound : Obligations.EveryStepKeepsTheChannelsSound := fun _ _ h run =>
  step_keeps (fun _ _ => id) boot_channelsSound channelsSound_move run h

/-! ### What stands until its own command -/

/-- What a command leaves of the standing states of a station (R42, R162, R163, R165, R170, R171, R175, R176). -/
structure Stands (c : Instr) (s u : State) : Prop where
  pending : u.pending = s.pending
  now : s.now ≤ u.now
  role : u.role = s.role
  identity : u.identity = s.identity
  silent : s.phase = .silent → u.phase = .silent
  started : s.phase ≠ .start → u.phase ≠ .start ∧ u.settings = s.settings
  settings : (∀ t i a x v, c ≠ .setup t i a x v) → u.settings = s.settings
  stopped : (∀ t i, c ≠ .releaseConfirm t i) → s.safety.output = .stopped → u.safety.output = .stopped
  severity : (∀ t i a, c ≠ .clearFault t i a) → s.safety.record.severity.code ≤ u.safety.record.severity.code

theorem Stands.refl (c : Instr) (s : State) : Stands c s s :=
  ⟨rfl, Nat.le_refl _, rfl, rfl, id, fun h => ⟨h, rfl⟩, fun _ => rfl, fun _ => id, fun _ => Nat.le_refl _⟩

theorem Stands.trans {v : State} (h : Stands c s v) (k : Stands c v u) : Stands c s u where
  pending := k.pending.trans h.pending
  now := h.now.trans k.now
  role := k.role.trans h.role
  identity := k.identity.trans h.identity
  silent silent := k.silent (h.silent silent)
  started started := by
    obtain ⟨phase, settings⟩ := h.started started
    obtain ⟨phase', settings'⟩ := k.started phase
    exact ⟨phase', settings'.trans settings⟩
  settings other := (k.settings other).trans (h.settings other)
  stopped other stopped := k.stopped other (h.stopped other stopped)
  severity other := (h.severity other).trans (k.severity other)

/-- A capture never lowers the severity of the record (R165). -/
theorem takeCapture_severity (held new : FaultRecord) : held.severity.code ≤ (takeCapture held new).severity.code := by
  unfold takeCapture
  split
  · next empty => rw [empty]; exact Nat.zero_le _
  · split
    · next higher => exact Nat.le_of_lt higher
    · exact Nat.le_refl _

theorem stands_move (m : Move c q s u) : Stands c s u := by
  cases m with
  | clock now later => exact { Stands.refl c s with now := later }
  | report k cls sender => exact { Stands.refl c s with severity := fun _ => takeCapture_severity .. }
  | stop => exact { Stands.refl c s with stopped := fun _ _ => rfl }
  | release t i hc => exact { Stands.refl c s with stopped := fun other => absurd hc (other t i) }
  | clearFault t i a hc =>
    exact { Stands.refl c s with
      stopped := fun _ stopped => (clear_output _).trans stopped, severity := fun other => absurd hc (other t i a) }
  | store t i a x v hc σ put start =>
    exact { Stands.refl c s with
      started := fun started => absurd start started, settings := fun other => absurd hc (other t i a x v) }
  | enterOperating start =>
    exact { Stands.refl c s with
      silent := fun silent => by rw [start] at silent; cases silent
      started := fun started => absurd start started }
  | enterSilent => exact { Stands.refl c s with silent := fun _ => rfl, started := fun _ => ⟨nofun, rfl⟩ }
  | _ => exact { Stands.refl c s with }

theorem stands_of_moves (moves : Moves c q s u) : Stands c s u := by
  induction moves with
  | refl => exact .refl c s
  | tail _ last ih => exact ih.trans (stands_move last)

theorem stands_of_exec (notReset : ∀ pins, c ≠ .reset pins) (run : exec c s = .next u) : Stands c s u :=
  stands_of_moves (exec_moves notReset run)

/-! ### Orders of a final status -/

/-- The queue loses final orders by being emptied alone, and an empty slot stays empty. -/
def FinalStands (orders orders' : Vector (Option Order) 12) : Prop :=
  ∀ j : Fin 12,
    (∀ o, orders[j] = some o → o.status ≠ .pending → o.status ≠ .active → orders'[j] = some o ∨ orders'[j] = none) ∧
    (orders[j] = none → orders'[j] = none)

theorem FinalStands.refl (orders : Vector (Option Order) 12) : FinalStands orders orders :=
  fun _ => ⟨fun _ held _ _ => .inl held, id⟩

theorem FinalStands.trans {o₁ o₂ o₃ : Vector (Option Order) 12} (h : FinalStands o₁ o₂) (k : FinalStands o₂ o₃) :
    FinalStands o₁ o₃ := by
  intro j
  obtain ⟨final, vacant⟩ := h j
  obtain ⟨final', vacant'⟩ := k j
  refine ⟨fun o held hp ha => ?_, fun empty => vacant' (vacant empty)⟩
  obtain kept | lost := final o held hp ha
  · exact final' o kept hp ha
  · exact .inr (vacant' lost)

theorem finalStands_of_finished {orders orders' : Vector (Option Order) 12} (h : Finished orders orders') :
    FinalStands orders orders' :=
  fun j => ⟨fun o held hp ha => .inl (h.final j o held hp ha), h.vacant j⟩

theorem finalStands_emptied (orders : Vector (Option Order) 12) : FinalStands orders (Vector.replicate 12 none) :=
  fun j => ⟨fun _ _ _ _ => .inr (none_of_replicate j), fun _ => none_of_replicate j⟩

/-- Every move but the storing of an order. -/
theorem finalStands_move (notOrder : ∀ t i n x a b d e g, c ≠ .order t i n x a b d e g) (m : Move c q s u) :
    FinalStands s.stem.orders u.stem.orders := by
  cases m with
  | stem v kept => exact fun j => ⟨fun o held hp ha => .inl (kept.final j o held hp ha), kept.vacant j⟩
  | order t i n x a b d e g hc => exact absurd hc (notOrder t i n x a b d e g)
  | stop => exact finalStands_of_finished (stop_finished s.stem)
  | closeStem => exact finalStands_emptied _
  | openStem serial => exact finalStands_emptied _
  | _ => exact .refl _

theorem activate_final (v : State) : FinalKept v.stem.orders v.activate.stem.orders := by
  obtain same | ⟨i, o, -, -, -, -, held, pending, eq⟩ := activate_cases v
  · rw [same]; exact .refl _
  · rw [eq, State.judgePassed_stem]
    exact finalKept_set fun q h => by rw [held] at h; cases h; exact .inl pending

theorem enterStopped_final (v : State) : FinalKept v.stem.orders v.enterStopped.stem.orders :=
  FinalKept.trans (stop_finished v.stem).final
    (activate_final
      { v with
        safety.output := .stopped
        feed := if v.role = .feed then v.feed.stop else v.feed
        saw := if v.role = .saw then v.saw.discard else v.saw
        stem := v.stem.stop })

theorem captureStop_final (v : State) (k : FaultKind) (cls : Option FrameClass) (sender : Option Ident) (isLocal : Bool) :
    FinalKept v.stem.orders (v.captureStop k cls sender isLocal).stem.orders := by
  have placed : (if isLocal then (v.report k cls sender).placeStopNotice k else v.report k cls sender).stem = v.stem := by
    split
    · exact State.placeStopNotice_stem ..
    · rfl
  have disarmed (w : State) : FinalKept w.stem.orders
      (if w.safety.output = .run then State.enterStopped { w with safety.arming := none }
       else { w with safety.arming := none }).stem.orders := by
    split
    · exact enterStopped_final { w with safety.arming := none }
    · exact .refl _
  have start : FinalKept v.stem.orders
      (if isLocal then (v.report k cls sender).placeStopNotice k else v.report k cls sender).stem.orders := by
    rw [placed]; exact .refl _
  exact start.trans (disarmed _)

theorem takeOrder_final (v : State) (sender : Ident) (index : Byte) (o : Order) :
    FinalKept v.stem.orders (v.takeOrder sender index o).stem.orders := by
  unfold State.takeOrder
  split
  · next bound =>
    split
    · next taken =>
      obtain ⟨-, -, free⟩ := taken
      refine FinalKept.trans (finalKept_set (i := ⟨index.toNat, bound⟩) (x := some o) fun q held => .inl ?_)
        (activate_final { v with stem.orders := v.stem.orders.set index.toNat (some o) })
      have slot : v.stem.orders[index.toNat] = some q := held
      simpa [slotFree, slot] using free
    · exact .refl _
  · exact .refl _

theorem observeFor_final (v : State) (t : Nat) (f : RawFrame) (g : State → State)
    (h : ∀ w : State, FinalKept w.stem.orders (g w).stem.orders) :
    FinalKept v.stem.orders (v.observeFor t f (some g)).stem.orders := by
  have heard : FinalKept v.stem.orders (g (v.record t f)).stem.orders := h (v.record t f)
  unfold State.observeFor State.observe
  split
  · exact .refl _
  · split
    · exact captureStop_final { v.clock t with link.lineIdle := false } .idConflict _ _ true
    · dsimp only
      split
      · exact heard
      · exact .refl _

theorem exec_finalStands (notReset : ∀ pins, c ≠ .reset pins) (run : exec c s = .next u) (j : Fin 12) (o : Order)
    (held : s.stem.orders[j] = some o) (hp : o.status ≠ .pending) (ha : o.status ≠ .active) :
    u.stem.orders[j] = some o ∨ u.stem.orders[j] = none := by
  by_cases isOrder : ∃ t i n x a b d e g, c = .order t i n x a b d e g
  · obtain ⟨t, i, n, x, a, b, d, e, g, rfl⟩ := isOrder
    cases run
    refine .inl (observeFor_final s t _ _ (fun w => ?_) j o held hp ha)
    unfold State.inStem
    split
    · exact takeOrder_final w i x _
    · exact .refl _
  · have notOrder : ∀ t i n x a b d e g, c ≠ .order t i n x a b d e g :=
      fun t i n x a b d e g same => isOrder ⟨t, i, n, x, a, b, d, e, g, same⟩
    have stands : FinalStands s.stem.orders u.stem.orders := by
      have moves := exec_moves notReset run
      clear run
      induction moves with
      | refl => exact .refl _
      | tail _ last ih => exact ih.trans (finalStands_move notOrder last)
    exact (stands j).1 o held hp ha

/-- Settles O59: every move leaves the standing states to their own commands. -/
theorem standingStatesAreLeftByTheirCommandsAlone : Obligations.StandingStatesAreLeftByTheirCommandsAlone := by
  intro c s u run notReset
  have stands := stands_of_exec notReset run
  exact ⟨stands.role, stands.identity, stands.silent,
    fun operating => stands.started (by rw [operating]; decide), stands.settings, stands.stopped, stands.severity,
    exec_finalStands notReset run⟩

/-! ### Every command completes, and leaves the station settled -/

/-- Settles O2: every command ends in `done`; the queue and the order of moments are read off its moves. -/
theorem everyCommandCompletes : Obligations.EveryCommandCompletes := by
  intro c s
  obtain ⟨v, run⟩ := FeedControl.exec_eq_done c s
  refine ⟨v.refresh, run, ?_, fun notReset => (stands_of_exec notReset run).now⟩
  by_cases isReset : ∃ pins, c = .reset pins
  · obtain ⟨pins, rfl⟩ := isReset
    have booted := Host.Outcome.next.inj (run.symm.trans (exec_reset pins s))
    rw [booted]
    rfl
  · exact (stands_of_exec (fun pins same => isReset ⟨pins, same⟩) run).pending

end Sys2Proof.Proofs.Invariants
end

section
/-! PROOFS. What follows the state (R35, R110, R126, R128, R146, R152 to R156, R167): bringing a state up to date twice is
bringing it up to date once, and what a state brought up to date shows. -/

namespace Sys2Proof.Proofs.Follow

open Sys2Proof.Machine
open Sys2Proof.Proofs.FeedControl (eq_refresh_of_exec refresh_presented)

variable {s u : State}

/-! ### Bringing up to date is idempotent -/

theorem refresh_channels (s : State) (i : Fin 4) :
    s.refresh.valves.channels[i] = s.valves.channels[i].follow s.forcedOff s.now (s.ownerDuty i) := by
  simp [State.refresh]

/-- The duty an owner presents is read from what bringing up to date leaves. -/
theorem refresh_ownerDuty (s : State) (i : Fin 4) : s.refresh.ownerDuty i = s.ownerDuty i := rfl

theorem refresh_channels_twice (s : State) : s.refresh.refresh.valves.channels = s.refresh.valves.channels := by
  ext1 i h
  have again := refresh_channels s.refresh ⟨i, h⟩
  have once := refresh_channels s ⟨i, h⟩
  rw [refresh_ownerDuty, once] at again
  exact (again.trans (Channel.follow_follow ..)).trans once.symm

/-- The SELF entry shows the station's phase and stem state (R35). -/
theorem refresh_self (s : State) :
    s.refresh.peers[s.identity] = { s.peers[s.identity] with phase := s.phase, stem := s.stem.state } := by
  simp [State.refresh]

theorem refresh_peers_twice (s : State) : s.refresh.refresh.peers = s.refresh.peers := by
  have set : s.refresh.refresh.peers =
      s.refresh.peers.set s.identity { s.refresh.peers[s.identity] with phase := s.phase, stem := s.stem.state } := rfl
  rw [set, refresh_self]
  exact Vector.set_set ..

theorem refresh_settled (s : State) : s.refresh.Settled := by
  have twice : s.refresh.refresh =
      { s.refresh with valves.channels := s.refresh.refresh.valves.channels, peers := s.refresh.refresh.peers } := rfl
  unfold State.Settled
  rw [twice, refresh_channels_twice, refresh_peers_twice]

/-- Settles O4: a command leaves a state just brought up to date, and doing so again changes nothing. -/
theorem everyCommandLeavesTheStationSettled : Obligations.EveryCommandLeavesTheStationSettled := by
  intro c s u run
  obtain ⟨v, rfl⟩ := eq_refresh_of_exec run
  have own := refresh_self v
  exact ⟨refresh_settled v, congrArg Peer.phase own, congrArg Peer.stem own⟩

/-! ### What a settled state shows -/

theorem presented_of_settled (h : s.Settled) (i : Fin 4) : s.valves.channels[i].presented = s.ownerDuty i :=
  (congrArg (fun v : State => v.valves.channels[i].presented) h).symm.trans (refresh_presented s i)

theorem feedDuty_of_settled (h : s.Settled) : s.feed.feedDuty = s.feedDutyNow :=
  (congrArg (fun v : State => v.feed.feedDuty) h).symm

theorem gripDuty_of_settled (h : s.Settled) : s.feed.gripDuty = s.gripDutyNow :=
  (congrArg (fun v : State => v.feed.gripDuty) h).symm

theorem barDuty_of_settled (h : s.Settled) : s.saw.barDuty = s.barDutyNow :=
  (congrArg (fun v : State => v.saw.barDuty) h).symm

theorem chainDuty_of_settled (h : s.Settled) : s.saw.chainDuty = s.chainDutyNow :=
  (congrArg (fun v : State => v.saw.chainDuty) h).symm

theorem channel_of_settled (h : s.Settled) (i : Fin 4) :
    s.valves.channels[i] = s.valves.channels[i].follow s.forcedOff s.now (s.ownerDuty i) :=
  (congrArg (fun v : State => v.valves.channels[i]) h).symm.trans (refresh_channels s i)

/-! ### The owners of the channels (R146) -/

theorem ownerDuty_unused (s : State) : s.ownerDuty 2 = 0 ∧ s.ownerDuty 3 = 0 := by
  unfold State.ownerDuty
  cases s.role <;> exact ⟨rfl, rfl⟩

theorem ownerDuty_feed (h : s.role = .feed) : s.ownerDuty 0 = s.feedDutyNow ∧ s.ownerDuty 1 = s.gripDutyNow := by
  simp [State.ownerDuty, h]

theorem ownerDuty_measure (h : s.role = .measure) : s.ownerDuty 0 = s.wheelDutyNow ∧ s.ownerDuty 1 = 0 := by
  simp [State.ownerDuty, h]

theorem ownerDuty_knife (h : s.role = .knife) : s.ownerDuty 0 = s.knifeDutyNow ∧ s.ownerDuty 1 = s.knifeDutyNow := by
  simp [State.ownerDuty, h]

theorem ownerDuty_saw (h : s.role = .saw) : s.ownerDuty 0 = s.barDutyNow ∧ s.ownerDuty 1 = s.chainDutyNow := by
  simp [State.ownerDuty, h]

/-! ### The laws of the duties -/

theorem gripDutyNow_feed (h : s.role = .feed) :
    s.gripDutyNow = if s.stem.state = .noStem then 0 else (s.settings.rollerGripDuty : Int) := by
  simp [State.gripDutyNow, h]

/-- The wheel arm law (R155, R156). -/
theorem wheelDutyNow_eq (s : State) :
    s.wheelDutyNow =
      (match s.stem.state with
        | .gripped | .running | .atMark | .cutting => (s.settings.wheelPressDuty : Int)
        | .topped | .noStem => if s.valves.wheelLift = none then 0 else -(s.settings.wheelLiftDuty : Int)) := by
  unfold State.wheelDutyNow
  cases s.stem.state <;> cases s.valves.wheelLift <;> rfl

/-- The knife law (R153, R154). -/
theorem knifeDutyNow_eq (s : State) :
    s.knifeDutyNow =
      (match s.stem.state with
        | .noStem => 0
        | .gripped | .cutting => (s.settings.knifeGripDuty : Int)
        | .running | .atMark =>
          min 1000 ((s.settings.knifeBase : Int) + ((s.settings.knifeSlope * s.profile.fused / 100 : Nat) : Int))
        | .topped => if s.valves.knifeOpen = none then 0 else -1000) := by
  unfold State.knifeDutyNow
  cases s.stem.state <;> cases s.valves.knifeOpen <;> rfl

/-- The bar and chain duties of the handshake states (R128). -/
theorem barDutyNow_saw (h : s.role = .saw) :
    s.barDutyNow =
      (match s.saw.state with
        | .down => (s.settings.barDuty : Int)
        | .ret => -(s.settings.barDuty : Int)
        | .idle | .requested | .spin => 0) := by
  unfold State.barDutyNow
  refine (if_neg (not_not.mpr h)).trans ?_
  cases s.saw.state <;> rfl

theorem chainDutyNow_saw (h : s.role = .saw) :
    s.chainDutyNow =
      (match s.saw.state with
        | .requested | .spin | .down => (s.settings.chainDuty : Int)
        | .idle | .ret => 0) := by
  unfold State.chainDutyNow
  refine (if_neg (not_not.mpr h)).trans ?_
  cases s.saw.state <;> rfl

/-! ### The channels -/

theorem forcedOff_iff (s : State) : s.forcedOff = true ↔ s.safety.output = .stopped ∨ s.phase ≠ .operating := by
  simp [State.forcedOff]

/-- A channel forced off drives nothing (R152). -/
theorem follow_forced (ch : Channel) (now : Nat) (duty : Int) :
    (ch.follow true now duty).side = none ∧ (ch.follow true now duty).buffer = 0 ∧
      (ch.follow true now duty).active = 0 ∧ (ch.follow true now duty).overload = 0 :=
  ⟨Invariants.switchOff_side ch now, rfl, rfl, rfl⟩

theorem channel_off (h : s.Settled) (off : s.safety.output = .stopped ∨ s.phase ≠ .operating) (i : Fin 4) :
    s.valves.channels[i].side = none ∧ s.valves.channels[i].buffer = 0 ∧ s.valves.channels[i].active = 0 ∧
      s.valves.channels[i].overload = 0 := by
  have follows := channel_of_settled h i
  rw [(forcedOff_iff s).mpr off] at follows
  rw [follows]
  exact follow_forced ..

theorem channel_on (h : s.Settled) (run : s.safety.output = .run) (operating : s.phase = .operating) (i : Fin 4) :
    s.valves.channels[i].buffer = s.valves.channels[i].presented := by
  have on : s.forcedOff = false := by simp [State.forcedOff, run, operating]
  have follows := channel_of_settled h i
  rw [on] at follows
  rw [follows]
  rfl

/-- Settles O6: a settled state's duties and channels are those of the state brought up to date. -/
theorem dutiesAndChannelsFollowTheState : Obligations.DutiesAndChannelsFollowTheState := by
  refine ⟨fun s h => ?_, fun s h i => ⟨fun off => channel_off h off i, fun run operating => channel_on h run operating i⟩⟩
  have presented := presented_of_settled h
  obtain ⟨unused2, unused3⟩ := ownerDuty_unused s
  refine ⟨fun role => ?_, fun role => ?_, fun role => ?_, fun role => ?_, (presented 2).trans unused2,
    (presented 3).trans unused3⟩
  · obtain ⟨feed, grip⟩ := ownerDuty_feed role
    exact ⟨(presented 0).trans (feed.trans (feedDuty_of_settled h).symm),
      (presented 1).trans (grip.trans (gripDuty_of_settled h).symm),
      (gripDuty_of_settled h).trans (gripDutyNow_feed role)⟩
  · obtain ⟨wheel, unused⟩ := ownerDuty_measure role
    exact ⟨(presented 0).trans (wheel.trans (wheelDutyNow_eq s)), (presented 1).trans unused⟩
  · obtain ⟨left, right⟩ := ownerDuty_knife role
    exact ⟨(presented 0).trans (left.trans (knifeDutyNow_eq s)),
      ((presented 1).trans right).trans ((presented 0).trans left).symm⟩
  · obtain ⟨bar, chain⟩ := ownerDuty_saw role
    exact ⟨(presented 0).trans (bar.trans (barDuty_of_settled h).symm),
      (presented 1).trans (chain.trans (chainDuty_of_settled h).symm),
      (barDuty_of_settled h).trans (barDutyNow_saw role), (chainDuty_of_settled h).trans (chainDutyNow_saw role)⟩

end Sys2Proof.Proofs.Follow
end

section
/-! PROOFS. The observation of a frame, said once for every command that stands for one (R24, R25, R36): SILENT, the identity
conflict, the frame whose sender fails the role filter, and the heard frame. -/

namespace Sys2Proof.Proofs.Hearing

open Sys2Proof.Machine Sys2Proof.Proofs.Effects

variable {c : Instr} {f : RawFrame} {s : State}

/-! ### Every frame command observes its frame -/

/-- The role filter of MOTION and GATE (R25, R43). -/
theorem publishes_measure (v : State) (i : Ident) :
    publishes v.peers[i] .measure = v.roleFilter .motion i ∧ publishes v.peers[i] .measure = v.roleFilter .gate i := by
  unfold publishes State.roleFilter
  cases v.peers[i].role with
  | d226 r => cases r <;> exact ⟨rfl, rfl⟩
  | _ => exact ⟨rfl, rfl⟩

/-- The role filter of ROLLER (R25, R43). -/
theorem publishes_feed (v : State) (i : Ident) : publishes v.peers[i] .feed = v.roleFilter .roller i := by
  unfold publishes State.roleFilter
  cases v.peers[i].role with
  | d226 r => cases r <;> rfl
  | _ => rfl

/-- A command that stands for a frame observes it. After the recording no block acts where the sender fails the role filter
(R25), which ANNOUNCE is exempt from. -/
theorem exec_eq_observe (frame : observedFrame c = some f) :
    ∃ rest : Peer → State → State, (∀ s, exec c s = (s.observe (Instr.time c) f rest).done) ∧
      ∀ was v, f.cls ≠ .announce → v.roleFilter f.cls f.sender = false → rest was v = v := by
  cases c with
  | announce => cases frame; exact ⟨_, fun _ => rfl, fun _ _ other => absurd rfl other⟩
  | otherFrameObserved => cases frame; exact ⟨_, fun _ => rfl, fun _ _ _ _ => rfl⟩
  | motion t i seq total contact =>
    cases frame
    refine ⟨_, fun _ => rfl, fun was v _ fails => ?_⟩
    rw [← (publishes_measure v i).1] at fails
    simp only [fails]
    split <;> rfl
  | roller t i seq left right =>
    cases frame
    refine ⟨_, fun _ => rfl, fun was v _ fails => ?_⟩
    rw [← publishes_feed v i] at fails
    exact if_neg (Bool.eq_false_iff.mp fails)
  | gate t i seq total =>
    cases frame
    refine ⟨_, fun _ => rfl, fun was v _ fails => ?_⟩
    rw [← (publishes_measure v i).2] at fails
    exact if_neg (Bool.eq_false_iff.mp fails)
  | _ => cases frame <;> exact ⟨_, fun _ => rfl, fun was v _ fails => if_neg (Bool.eq_false_iff.mp fails)⟩

/-- In SILENT an observed frame reaches no block (R42). -/
theorem exec_silent (frame : observedFrame c = some f) (silent : s.phase = .silent) :
    exec c s = .next (State.refresh { s with now := max s.now (Instr.time c), link.lineIdle := false }) := by
  obtain ⟨rest, observes, -⟩ := exec_eq_observe frame
  rw [observes, State.observe_silent _ _ _ _ silent]
  rfl

/-- An identity conflict (R36 step 1, R41). -/
theorem exec_idConflict (frame : observedFrame c = some f) (conflict : IdConflict s f) :
    exec c s = .next (State.refresh (State.idConflict { s.clock (Instr.time c) with link.lineIdle := false } f.cls)) := by
  obtain ⟨awake, foreign⟩ := conflict
  obtain ⟨rest, observes, -⟩ := exec_eq_observe frame
  have observed : s.observe (Instr.time c) f rest =
      State.idConflict { s.clock (Instr.time c) with link.lineIdle := false } f.cls := by
    unfold State.observe
    rw [if_neg awake, if_pos foreign]
  rw [observes, observed]
  rfl

theorem observe_recorded {t : Nat} {rest : Peer → State → State} (awake : s.phase ≠ .silent)
    (own : f.sender = s.identity → s.isOwn f = true) :
    s.observe t f rest = rest s.peers[f.sender] (s.record t f) := by
  unfold State.observe
  rw [if_neg awake, if_neg]
  rintro ⟨same, foreign⟩
  rw [own same] at foreign
  cases foreign

/-- A frame whose sender fails the role filter is recorded and has no other effect (R25). -/
theorem exec_unfiltered (frame : observedFrame c = some f) (awake : s.phase ≠ .silent)
    (own : f.sender = s.identity → s.isOwn f = true) (other : f.cls ≠ .announce)
    (fails : s.roleFilter f.cls f.sender = false) : exec c s = .next (s.record (Instr.time c) f).refresh := by
  obtain ⟨rest, observes, stands⟩ := exec_eq_observe frame
  rw [observes, observe_recorded awake own, stands _ _ other ((State.record_roleFilter ..).trans fails)]
  rfl

end Sys2Proof.Proofs.Hearing
end

section
/-! PROOFS. The expiry commands: the timers that end a state of their own block alone, and an expiry whose timer does not run
(R114, R154, R156, R162). -/

namespace Sys2Proof.Proofs.Timers

open Sys2Proof.Machine

variable {s : State} {t due : Nat}

/-! ### A running timer -/

theorem releaseArmingExpiry_running (h : s.safety.arming = some due) :
    exec (.releaseArmingExpiry t) s = .next (State.refresh { s.clockDue t due with safety.arming := none }) := by
  simp only [exec, execReleaseArmingExpiry, h, State.done_eq]

theorem manualExpiry_running (h : s.feed.expiry = some due) :
    exec (.manualExpiry t) s = .next (State.refresh { s.clockDue t due with feed.demand := 0, feed.expiry := none }) := by
  simp only [exec, execManualExpiry, h, State.done_eq]

theorem knifeOpenTimerExpiry_running (h : s.valves.knifeOpen = some due) :
    exec (.knifeOpenTimerExpiry t) s = .next (State.refresh { s.clockDue t due with valves.knifeOpen := none }) := by
  simp only [exec, execKnifeOpenTimerExpiry, h, State.done_eq]

theorem wheelLiftTimerExpiry_running (h : s.valves.wheelLift = some due) :
    exec (.wheelLiftTimerExpiry t) s = .next (State.refresh { s.clockDue t due with valves.wheelLift := none }) := by
  simp only [exec, execWheelLiftTimerExpiry, h, State.done_eq]

/-! ### A timer that does not run: the clock alone moves -/

theorem releaseArmingExpiry_idle (h : s.safety.arming = none) :
    exec (.releaseArmingExpiry t) s = .next (s.clock t).refresh := by
  simp only [exec, execReleaseArmingExpiry, h, State.done_eq]

theorem manualExpiry_idle (h : s.feed.expiry = none) : exec (.manualExpiry t) s = .next (s.clock t).refresh := by
  simp only [exec, execManualExpiry, h, State.done_eq]

theorem knifeOpenTimerExpiry_idle (h : s.valves.knifeOpen = none) :
    exec (.knifeOpenTimerExpiry t) s = .next (s.clock t).refresh := by
  simp only [exec, execKnifeOpenTimerExpiry, h, State.done_eq]

theorem wheelLiftTimerExpiry_idle (h : s.valves.wheelLift = none) :
    exec (.wheelLiftTimerExpiry t) s = .next (s.clock t).refresh := by
  simp only [exec, execWheelLiftTimerExpiry, h, State.done_eq]

theorem keepAliveExpiry_idle (h : s.link.keepAlive = none) : exec (.keepAliveExpiry t) s = .next (s.clock t).refresh := by
  simp only [exec, execKeepAliveExpiry, h, State.done_eq]

theorem closingTimerExpiry_idle (h : s.fusion.closing = none) :
    exec (.closingTimerExpiry t) s = .next (s.clock t).refresh := by
  simp only [exec, execClosingTimerExpiry, h, State.done_eq]

theorem grantTimerExpiry_idle (h : s.saw.grantTimer = none) : exec (.grantTimerExpiry t) s = .next (s.clock t).refresh := by
  simp only [exec, execGrantTimerExpiry, h, State.done_eq]

theorem chainTimerExpiry_idle (h : s.saw.chainTimer = none) : exec (.chainTimerExpiry t) s = .next (s.clock t).refresh := by
  simp only [exec, execChainTimerExpiry, h, State.done_eq]

theorem cutTimerExpiry_idle (h : s.saw.cutTimer = none) : exec (.cutTimerExpiry t) s = .next (s.clock t).refresh := by
  simp only [exec, execCutTimerExpiry, h, State.done_eq]

theorem returnTimerExpiry_idle (h : s.saw.returnTimer = none) :
    exec (.returnTimerExpiry t) s = .next (s.clock t).refresh := by
  simp only [exec, execReturnTimerExpiry, h, State.done_eq]

theorem chainPeriodExpiry_idle (h : s.capture.cap2.lastEdge = none) :
    exec (.chainPeriodExpiry t) s = .next (s.clock t).refresh := by
  simp only [exec, execChainPeriodExpiry, h, State.done_eq]

theorem sampleInstant_idle (an0 an1 an2 an3 : Raw) (h : s.capture.sampleTimer = none) :
    exec (.sampleInstant t an0 an1 an2 an3) s = .next (s.clock t).refresh := by
  simp only [exec, execSampleInstant, h, State.done_eq]

theorem diameterAged_idle {src : DiameterSource} (h : s.profile.source src = none ∨ s.phase ≠ .operating) :
    exec (.diameterAged t src) s = .next (s.clock t).refresh := by
  simp only [exec, execDiameterAged]
  split
  · next held =>
    rw [if_neg (h.resolve_left (by simp [held]))]
    rfl
  · rfl

theorem peerSilenceTimeout_idle {i : Ident} (h : s.peers[i].presence ≠ .present ∨ s.phase = .silent) :
    exec (.peerSilenceTimeout t i) s = .next (s.clock t).refresh := by
  simp only [exec, execPeerSilenceTimeout]
  split
  · rw [if_neg]
    · rfl
    · rintro ⟨present, awake⟩
      exact h.elim (· present) awake
  · rfl

/-- Settles O51: each expiry command on both sides of its timer. -/
theorem timersRunOutOnce : Obligations.TimersRunOutOnce := fun _ _ =>
  ⟨fun _ => releaseArmingExpiry_running, fun _ => manualExpiry_running, fun _ => knifeOpenTimerExpiry_running,
    fun _ => wheelLiftTimerExpiry_running, releaseArmingExpiry_idle, manualExpiry_idle, knifeOpenTimerExpiry_idle,
    wheelLiftTimerExpiry_idle, keepAliveExpiry_idle, closingTimerExpiry_idle, grantTimerExpiry_idle,
    chainTimerExpiry_idle, cutTimerExpiry_idle, returnTimerExpiry_idle, chainPeriodExpiry_idle,
    fun _ none => diameterAged_idle (.inl none), fun _ absent => peerSilenceTimeout_idle (.inl absent),
    fun none an0 an1 an2 an3 => sampleInstant_idle an0 an1 an2 an3 none⟩

end Sys2Proof.Proofs.Timers
end

section
/-! PROOFS. A SILENT station (R30, R42, R177): how it comes about, and that no command ends its stillness. -/

namespace Sys2Proof.Proofs.Silent

open Sys2Proof.Machine Sys2Proof.Proofs.Effects Sys2Proof.Proofs.Hearing Sys2Proof.Proofs.Timers
open Sys2Proof.Proofs.Invariants (Stands)

variable {c : Instr} {s u v : State}

/-- A SILENT station with nothing to send and no timer of a block running. -/
def Quiet (v : State) : Prop := v.phase = .silent ∧ v.SilentIsStill

theorem enterSilent_quiet (v : State) : Quiet v.enterSilent :=
  ⟨rfl, fun _ => ⟨rfl, rfl, rfl, rfl, rfl, rfl, rfl, rfl, rfl, rfl, rfl, rfl, rfl, rfl, rfl, rfl, rfl, rfl, rfl, rfl, rfl, rfl,
    rfl⟩⟩

/-! ### SILENT is entered through an identity conflict alone -/

theorem awake_move {q : Prop} (calm : ¬ q) (m : Move c q s u) (awake : s.phase ≠ .silent) : u.phase ≠ .silent := by
  cases m with
  | enterOperating => nofun
  | enterSilent conflict => exact absurd conflict calm
  | _ => exact awake

theorem awake_of_exec (calm : ¬ Conflicts c s) (awake : s.phase ≠ .silent) (run : exec c s = .next u) :
    u.phase ≠ .silent := by
  by_cases isReset : ∃ pins, c = .reset pins
  · obtain ⟨pins, rfl⟩ := isReset
    rw [Reset.exec_reset] at run
    cases run
    nofun
  · exact Invariants.keep_of_moves (fun m h => awake_move calm m h)
      (exec_moves (fun pins same => isReset ⟨pins, same⟩) run) awake

/-! ### A quiet station stays quiet -/

/-- What SILENT keeps still: the phase, the frames to send and the timers of the blocks. -/
def stilled (v : State) :=
  (v.phase, { v.link with checkFailures := 0, txFailures := 0, lineIdle := false, ownCompleted := none },
    v.capture.sampleTimer, v.fusion.closing, v.feed.expiry, v.saw.grantTimer, v.saw.chainTimer, v.saw.cutTimer,
    v.saw.returnTimer, v.valves.knifeOpen, v.valves.wheelLift, v.safety.arming)

theorem quiet_of_same (h : Quiet s) (same : stilled v = stilled s := by rfl) : Quiet v := by
  simp only [stilled, Prod.mk.injEq, Link.mk.injEq] at same
  unfold Quiet State.SilentIsStill
  simp only [same]
  exact h

theorem quiet_clock (t : Nat) (h : Quiet s) : Quiet (s.clock t) := quiet_of_same h

theorem quiet_refresh (h : Quiet s) : Quiet s.refresh := quiet_of_same h

/-- A capture in SILENT is recorded without a FAULT NOTICE (R30). -/
theorem report_silent (k : FaultKind) (cls : Option FrameClass) (sender : Option Ident) (silent : s.phase = .silent) :
    s.report k cls sender =
      { s with safety.record := takeCapture s.safety.record (s.captureFields k cls sender) } := by
  simp [State.report, silent]

theorem quiet_report (k : FaultKind) (cls : Option FrameClass) (sender : Option Ident) (h : Quiet s) :
    Quiet (s.report k cls sender) := by
  rw [report_silent k cls sender h.1]
  exact quiet_of_same h

theorem deliverPeriod_silent (period : Option Nat) (silent : s.phase = .silent) : s.deliverPeriod period = s := by
  unfold State.deliverPeriod
  rw [if_neg]
  rintro ⟨-, operating⟩
  rw [silent] at operating
  cases operating

theorem quiet_expireChain (h : Quiet s) : Quiet s.expireChain := by
  have same : s.expireChain = { s with capture.cap2 := s.capture.cap2.expire } := deliverPeriod_silent none h.1
  rw [same]
  exact quiet_of_same h

theorem quiet_nextEdge (gap : Nat) (h : Quiet s) : Quiet (s.nextEdge gap) := by
  have same : s.nextEdge gap =
      { s with capture.cap2.lastEdge := some s.now, capture.cap2.period := some (max 1 gap) } :=
    deliverPeriod_silent _ h.1
  rw [same]
  exact quiet_of_same h

theorem quiet_channelBoundary (i : Fin 4) (raw : Raw) (h : Quiet s) : Quiet (s.channelBoundary i raw) := by
  unfold State.channelBoundary
  dsimp only
  split
  · exact quiet_report _ _ _ (quiet_of_same h)
  · exact quiet_of_same h

theorem quiet_done (h : Quiet v) (run : v.done = .next u) : Quiet u := by
  cases run
  exact quiet_refresh h

theorem quiet_idle {t : Nat} (h : Quiet s) (idle : exec c s = .next (s.clock t).refresh) (run : exec c s = .next u) :
    Quiet u := by
  cases Host.Outcome.next.inj (idle.symm.trans run)
  exact quiet_refresh (quiet_clock t h)

/-- A command that stands for no frame leaves a quiet station quiet: its timers do not run, nothing is on the line, and the
inputs it follows reach no other block. -/
theorem quiet_exec (notReset : ∀ pins, c ≠ .reset pins) (noFrame : observedFrame c = none) (h : Quiet s)
    (run : exec c s = .next u) : Quiet u := by
  obtain ⟨silent, still⟩ := id h
  obtain ⟨-, -, -, -, -, -, -, -, -, -, -, keepAlive, onLine, sample, closing, expiry, grant, chain, cut, ret, knife, wheel,
    arming⟩ := still silent
  cases c with
  | reset pins => exact absurd rfl (notReset pins)
  | quadratureTransition t channel line1 line2 =>
    refine quiet_done ?_ run
    split <;> exact quiet_of_same h
  | chainRisingEdge t =>
    refine quiet_done ?_ run
    split
    · split
      · exact quiet_of_same h
      · split
        · exact quiet_nextEdge _ (quiet_of_same h)
        · exact quiet_of_same (quiet_expireChain (quiet_clock t h))
    · exact quiet_of_same h
  | chainPeriodExpiry t =>
    simp only [exec, execChainPeriodExpiry] at run
    split at run
    · exact quiet_done (quiet_expireChain (quiet_of_same h)) run
    · exact quiet_done (quiet_of_same h) run
  | gateBlockEdge t =>
    refine quiet_done ?_ run
    split
    · dsimp only
      rw [if_neg (by simp [silent])]
      exact quiet_of_same h
    · exact quiet_of_same h
  | gateClearEdge t =>
    refine quiet_done ?_ run
    split <;> exact quiet_of_same h
  | stopLineAssertion t =>
    refine quiet_done ?_ run
    split
    · exact quiet_of_same h
    · dsimp only
      rw [if_neg (by simp [silent])]
      exact quiet_of_same h
  | stopLineInactive t => exact quiet_done (quiet_of_same h) run
  | sampleInstant t => exact quiet_idle h (sampleInstant_idle _ _ _ _ sample) run
  | pwmPeriodBoundary t =>
    refine quiet_done ?_ run
    exact quiet_channelBoundary _ _ (quiet_channelBoundary _ _ (quiet_channelBoundary _ _ (quiet_channelBoundary _ _
      (quiet_of_same h))))
  | lineIdle t =>
    refine quiet_done ?_ run
    rw [if_pos ((State.clock_phase s t).trans silent)]
    exact quiet_of_same h
  | arbitrationLost t =>
    simp only [exec, execArbitrationLost, State.clock_link, onLine] at run
    exact quiet_done (quiet_of_same h) run
  | frameDisturbed t =>
    simp only [exec, execFrameDisturbed, State.clock_link, onLine] at run
    exact quiet_done (quiet_of_same h) run
  | transmitComplete t =>
    simp only [exec, execTransmitComplete, State.clock_link, onLine] at run
    exact quiet_done (quiet_of_same h) run
  | linkCheckFail t why => exact quiet_done (quiet_report _ _ _ (quiet_of_same h)) run
  | keepAliveExpiry t => exact quiet_idle h (keepAliveExpiry_idle keepAlive) run
  | peerSilenceTimeout t => exact quiet_idle h (peerSilenceTimeout_idle (.inr silent)) run
  | diameterAged t => exact quiet_idle h (diameterAged_idle (.inr (by simp [silent]))) run
  | closingTimerExpiry t => exact quiet_idle h (closingTimerExpiry_idle closing) run
  | releaseArmingExpiry t => exact quiet_idle h (releaseArmingExpiry_idle arming) run
  | manualExpiry t => exact quiet_idle h (manualExpiry_idle expiry) run
  | grantTimerExpiry t => exact quiet_idle h (grantTimerExpiry_idle grant) run
  | chainTimerExpiry t => exact quiet_idle h (chainTimerExpiry_idle chain) run
  | cutTimerExpiry t => exact quiet_idle h (cutTimerExpiry_idle cut) run
  | returnTimerExpiry t => exact quiet_idle h (returnTimerExpiry_idle ret) run
  | knifeOpenTimerExpiry t => exact quiet_idle h (knifeOpenTimerExpiry_idle knife) run
  | wheelLiftTimerExpiry t => exact quiet_idle h (wheelLiftTimerExpiry_idle wheel) run
  | _ => cases noFrame

/-- A frame leaves a quiet station quiet, and an identity conflict leaves a quiet one (R30, R42, R177). -/
theorem quiet_of_frame {f : RawFrame} (frame : observedFrame c = some f) (h : Quiet s ∨ IdConflict s f)
    (run : exec c s = .next u) : Quiet u := by
  rcases h with quiet | conflict
  · rw [exec_silent frame quiet.1] at run
    cases run
    exact quiet_refresh (quiet_of_same quiet)
  · rw [exec_idConflict frame conflict] at run
    cases run
    exact quiet_refresh (enterSilent_quiet _)

theorem silentIsStill_exec (still : s.SilentIsStill) (run : exec c s = .next u) : u.SilentIsStill := by
  by_cases isReset : ∃ pins, c = .reset pins
  · obtain ⟨pins, rfl⟩ := isReset
    rw [Reset.exec_reset] at run
    cases run
    exact Reset.boot_silentIsStill pins _
  · have notReset : ∀ pins, c ≠ .reset pins := fun pins same => isReset ⟨pins, same⟩
    by_cases silent : s.phase = .silent
    · cases frame : observedFrame c with
      | none => exact (quiet_exec notReset frame ⟨silent, still⟩ run).2
      | some f => exact (quiet_of_frame frame (.inl ⟨silent, still⟩) run).2
    · by_cases conflicts : Conflicts c s
      · obtain ⟨f, frame, conflict⟩ := conflicts
        exact (quiet_of_frame frame (.inr conflict) run).2
      · exact fun silenced => absurd silenced (awake_of_exec conflicts silent run)

/-- Settles O55: a station becomes SILENT through an identity conflict, which stills it, and no command ends the stillness. -/
theorem everyStepKeepsSilentStationsStill : Obligations.EveryStepKeepsSilentStationsStill := by
  intro s u still run
  unfold step at run
  split at run
  · cases run; exact still
  · next c rest _ => exact silentIsStill_exec (s := { s with pending := rest }) still run

end Sys2Proof.Proofs.Silent
end

section
/-! PROOFS. The operations the rules share: the capture of a fault (R164, R165), the placement of a frame (R28, R30), the
recording of a frame (R36), the entry into STOPPED (R159) and the change of stem state. -/

namespace Sys2Proof.Proofs.Shared

open Sys2Proof.Machine Sys2Proof.Proofs.Effects

variable {s : State}

/-! ### The fault record (R164, R165) -/

/-- The record filled, or overwritten by a higher severity. -/
theorem takeCapture_fills {held new : FaultRecord} (fresh : new.laterCount = 0)
    (h : held.severity = .none ∨ held.severity.code < new.severity.code) :
    takeCapture held new = { new with laterCount := if held.severity = .none then 0 else held.laterCount } := by
  unfold takeCapture
  split
  · rw [← fresh]
  · next occupied => rw [if_pos (h.resolve_left occupied)]

/-- A capture that the record only counts. -/
theorem takeCapture_counts {held new : FaultRecord} (occupied : held.severity ≠ .none)
    (h : new.severity.code ≤ held.severity.code) :
    takeCapture held new = { held with laterCount := satAdd held.laterCount 1 } := by
  unfold takeCapture
  rw [if_neg occupied, if_neg (Nat.not_lt.mpr h)]

theorem fillsRecord_iff (held new : FaultRecord) :
    fillsRecord held new = true ↔ held.severity = .none ∨ held.severity.code < new.severity.code := by
  simp [fillsRecord]

theorem report_faultSlot (s : State) (k : FaultKind) (cls : Option FrameClass) (sender : Option Ident) :
    (s.report k cls sender).link.faultSlot =
      if (s.safety.record.severity = .none ∨ s.safety.record.severity.code < k.severity.code) ∧ s.phase ≠ .silent then
        some ⟨.faultNotice (s.report k cls sender).safety.record s.safety.previous, 0⟩
      else s.link.faultSlot :=
  if_congr (and_congr_left' (fillsRecord_iff ..)) rfl rfl

theorem orderIndex_code (x : OrderIndex) :
    OrderIndex.code x =
      match x with
      | some i => i.val
      | none => 255 := by
  cases x <;> rfl

theorem placeLog_room (s : State) (r : LogRecord) (awake : s.phase ≠ .silent) (room : s.link.logFifo.length < 4) :
    s.placeLog r = { s with link.logFifo := s.link.logFifo ++ [⟨.logRecord r, 0⟩] } := by
  simp [State.placeLog, awake, Config.fifoDepth, room]

theorem placeLog_full (s : State) (r : LogRecord) (awake : s.phase ≠ .silent) (full : 4 ≤ s.link.logFifo.length) :
    s.placeLog r = s.report .queueOverflow (some .logRecord) none := by
  simp [State.placeLog, awake, Config.fifoDepth, Nat.not_lt.mpr full]

/-- Settles O8: a capture by the severity held, a placement by the phase and the room in the FIFO. -/
theorem capturesAndPlacementsFollowTheirRules : Obligations.CapturesAndPlacementsFollowTheirRules := by
  refine ⟨fun s k cls sender => ?_, fun s f r => ?_⟩
  · intro held r
    have slot := report_faultSlot s k cls sender
    refine ⟨fun fills => ?_, fun ⟨occupied, counts⟩ => ?_, rfl⟩
    · have taken : r = _ := takeCapture_fills (new := s.captureFields k cls sender) rfl fills
      rw [taken]
      refine ⟨rfl, rfl, rfl, rfl, rfl, rfl, if_congr Iff.rfl rfl (orderIndex_code _), rfl, fun awake => ?_, fun silent => ?_⟩
      · rw [slot, if_pos ⟨fills, awake⟩]
        exact congrArg (fun record => some (TxFrame.mk (.faultNotice record s.safety.previous) 0)) taken
      · rw [slot, if_neg fun both => both.2 silent]
    · refine ⟨takeCapture_counts occupied counts, ?_⟩
      rw [slot, if_neg]
      rintro ⟨empty | higher, -⟩
      · exact occupied empty
      · exact absurd counts (Nat.not_le.mpr higher)
  · exact ⟨fun silent => ⟨if_pos silent, if_pos silent⟩, s.placeHandshake_room f, s.placeHandshake_full f, placeLog_room s r,
      placeLog_full s r⟩

/-! ### The recording of a frame (R36) -/

/-- The phase an entry shows once a frame of a class has been recorded. -/
def heardPhase (p : Peer) (cls : FrameClass) : Phase := if isPublication cls then .operating else p.phase

theorem heard_renewed {p : Peer} (now n : Nat) (cls : FrameClass) (h : p.presence = .absent ∨ p.presence = .lost) :
    p.heard now n cls =
      { p.rebaseline with presence := .present, lastHeard := some now, timeout := n, phase := heardPhase p cls } := by
  unfold Peer.heard heardPhase
  rw [if_pos h]
  cases isPublication cls <;> rfl

theorem heard_present {p : Peer} (now n : Nat) (cls : FrameClass) (h : p.presence = .present) :
    p.heard now n cls = { p with lastHeard := some now, timeout := n, phase := heardPhase p cls } := by
  unfold Peer.heard heardPhase
  cases isPublication cls <;> simp [h]

theorem heard_own {p : Peer} (now n : Nat) (cls : FrameClass) (h : p.presence = .self) :
    p.heard now n cls = { p with phase := heardPhase p cls } := by
  cases p
  cases h
  unfold Peer.heard heardPhase
  cases isPublication cls <;> rfl

theorem isPublication_iff (cls : FrameClass) :
    isPublication cls = true ↔ cls = .motion ∨ cls = .roller ∨ cls = .gate ∨ cls = .diameter := by
  cases cls <;> decide

theorem record_entry (s : State) (t : Nat) (f : RawFrame) :
    (s.record t f).peers[f.sender] = s.peers[f.sender].heard (max s.now t) s.settings.silenceTimeout f.cls := by
  simp

theorem record_other (s : State) (t : Nat) (f : RawFrame) {i : Fin 8} (other : i ≠ f.sender) :
    (s.record t f).peers[i] = s.peers[i] := by
  have different : (f.sender : Nat) ≠ i := fun e => other (Fin.ext e.symm)
  simp [different]

/-- Settles O9: by the presence the entry had. -/
theorem recordingAFrameRenewsItsSender : Obligations.RecordingAFrameRenewsItsSender := by
  intro s t f p q
  have entry : q = _ := record_entry s t f
  have phase : heardPhase p f.cls = if f.cls = .motion ∨ f.cls = .roller ∨ f.cls = .gate ∨ f.cls = .diameter then .operating
      else p.phase := if_congr (isPublication_iff f.cls) rfl rfl
  have others (i : Fin 8) (other : i ≠ f.sender) := record_other s t f other
  by_cases own : p.presence = .self
  · rw [heard_own _ _ _ own] at entry
    rw [entry]
    exact ⟨fun renewed => by simp [own] at renewed, fun _ => ⟨rfl, rfl, rfl, rfl, rfl⟩, rfl, rfl, rfl, rfl, rfl, rfl, rfl,
      fun other => absurd own other, fun _ => ⟨rfl, rfl⟩, phase, others, rfl⟩
  by_cases present : p.presence = .present
  · rw [heard_present _ _ _ present] at entry
    rw [entry]
    exact ⟨fun renewed => by simp [present] at renewed, fun _ => ⟨rfl, rfl, rfl, rfl, rfl⟩, rfl, rfl, rfl, rfl, rfl, rfl, rfl,
      fun _ => ⟨rfl, rfl⟩, fun self => absurd self own, phase, others, rfl⟩
  · have renewed : p.presence = .absent ∨ p.presence = .lost := by cases h : p.presence <;> simp_all
    rw [heard_renewed _ _ _ renewed] at entry
    rw [entry]
    exact ⟨fun _ => ⟨rfl, rfl, rfl, rfl, rfl⟩, fun kept => absurd kept (not_or.mpr ⟨present, own⟩), rfl, rfl, rfl, rfl, rfl,
      rfl, rfl, fun _ => ⟨rfl, rfl⟩, fun self => absurd self own, phase, others, rfl⟩

/-! ### The entry into STOPPED (R102, R159) -/

theorem finishSlot_interrupted (o : Option Order) (h : slotIs .active o = true) :
    finishSlot .interrupted o = o.map fun o => { o with status := .interrupted } := by
  cases o with
  | none => rfl
  | some o => exact finishSlot_unfinished (.inr (slotIs_some.mp h))

/-- The order whose begun ORDER cut the entry into STOPPED interrupts (R102). -/
def interrupts (u : StemUnit) (i : Fin 12) : Bool :=
  decide (u.view = some ⟨.order, some i, .started⟩) && slotIs .active u.orders[i]

theorem interrupts_false {u : StemUnit} {j : Fin 12} (h : u.view ≠ some ⟨.order, some j, .started⟩) :
    interrupts u j = false := by simp [interrupts, h]

/-- A slot after the entry into STOPPED. -/
theorem stop_slot (u : StemUnit) (j : Fin 12) :
    u.stop.orders[j] = u.orders[j].map fun o => if interrupts u j then { o with status := .interrupted } else o := by
  have kept (h : interrupts u j = false) :
      u.orders[j] = u.orders[j].map fun o => if interrupts u j then { o with status := .interrupted } else o := by
    simp [h]
  unfold StemUnit.stop
  split
  · next i view =>
    by_cases same : j = i
    · subst same
      by_cases active : slotIs .active u.orders[j] = true
      · have interrupted : interrupts u j = true := by simp only [interrupts, view, active]; rfl
        simp only [active, if_true]
        rw [getElem_finishOrder, if_pos rfl, finishSlot_interrupted _ active]
        simp only [interrupted, if_true]
      · simp only [active]
        exact kept (by unfold interrupts; rw [Bool.eq_false_iff.mpr active, Bool.and_false])
    · have other : interrupts u j = false := interrupts_false (by rw [view]; simpa using Ne.symm same)
      split
      · rw [getElem_finishOrder, if_neg (by simpa using Ne.symm same)]
        exact kept other
      · exact kept other
  · next notStarted =>
    exact kept (interrupts_false fun view => notStarted j view)

theorem stop_eq (u : StemUnit) : u.stop = { u with view := none, orders := u.stop.orders } := by
  obtain same | ⟨i, finished⟩ := Invariants.stop_cases u
  · rw [same]
  · rw [finished]

@[simp] theorem placeHandshake_arming (s : State) (f : Frame) : (s.placeHandshake f).safety.arming = s.safety.arming := by
  unfold State.placeHandshake; split <;> [rfl; split <;> rfl]

@[simp] theorem activate_arming (s : State) : s.activate.safety.arming = s.safety.arming := by
  obtain same | ⟨i, o, -, -, -, -, -, -, eq⟩ := activate_cases s
  · rw [same]
  · rw [eq]
    unfold State.judgePassed
    split
    · exact placeHandshake_arming ..
    · rfl

/-- What a capture of STOP severity does before it looks at the output state (R160, R162). -/
theorem captureStop_eq (s : State) (k : FaultKind) (cls : Option FrameClass) (sender : Option Ident) (isLocal : Bool) :
    s.captureStop k cls sender isLocal =
      (fun v : State => if s.safety.output = .run then v.enterStopped else v)
        { s.report k cls sender with
          safety.arming := none
          link.stopSlot :=
            if isLocal = true ∧ s.phase ≠ .silent then some ⟨.stopNotice k s.stem.serial, 0⟩ else s.link.stopSlot } := by
  have placed : { (if isLocal then (s.report k cls sender).placeStopNotice k else s.report k cls sender) with
        safety.arming := none } =
      { s.report k cls sender with
        safety.arming := none
        link.stopSlot :=
          if isLocal = true ∧ s.phase ≠ .silent then some ⟨.stopNotice k s.stem.serial, 0⟩ else s.link.stopSlot } := by
    cases isLocal with
    | false => simp; rfl
    | true =>
      unfold State.placeStopNotice
      by_cases silent : s.phase = .silent
      · simp only [State.report_phase, silent, if_true]; rfl
      · simp [silent]
  exact congrArg (fun v : State => if v.safety.output = .run then v.enterStopped else v) placed

/-- No severity is above STOP. -/
theorem eq_stop_of_code_le {v : Severity} (h : Severity.stop.code ≤ v.code) : v = .stop := by
  revert h
  cases v <;> decide

theorem takeCapture_stop (held : FaultRecord) {new : FaultRecord} (h : new.severity = .stop) :
    (takeCapture held new).severity = .stop := by
  unfold takeCapture
  split
  · exact h
  · split
    · exact h
    · next full =>
      rw [h, Nat.not_lt] at full
      exact eq_stop_of_code_le full

/-- A capture of STOP severity leaves the record at STOP, whatever activation captures after it. -/
theorem captureStop_severity (s : State) {k : FaultKind} (cls : Option FrameClass) (sender : Option Ident) (isLocal : Bool)
    (h : k.severity = .stop) : (s.captureStop k cls sender isLocal).safety.record.severity = .stop := by
  have placed : (if isLocal then (s.report k cls sender).placeStopNotice k else s.report k cls sender).safety =
      (s.report k cls sender).safety := by
    split
    · exact State.placeStopNotice_safety ..
    · rfl
  have start : (if isLocal then (s.report k cls sender).placeStopNotice k
      else s.report k cls sender).safety.record.severity = .stop := by
    rw [placed]; exact takeCapture_stop _ h
  have after := Invariants.stands_of_moves
    (disarmAndStop_moves (c := .lineIdle 0) (q := False)
      (if isLocal then (s.report k cls sender).placeStopNotice k else s.report k cls sender))
  have kept : (if isLocal then (s.report k cls sender).placeStopNotice k
      else s.report k cls sender).safety.record.severity.code ≤
        (s.captureStop k cls sender isLocal).safety.record.severity.code := after.severity nofun
  rw [start] at kept
  exact eq_stop_of_code_le kept

/-- Settles O10: the capture, and from RUN the entry into STOPPED with the slots as they are then. -/
theorem stopCapturesEnterStopped : Obligations.StopCapturesEnterStopped := by
  intro s k cls sender isLocal u reported placed interrupted stopped
  have eq : u = _ := captureStop_eq s k cls sender isLocal
  have orders : s.stem.stop.orders = stopped.stem.orders := by
    ext1 i h
    refine (stop_slot s.stem ⟨i, h⟩).trans (.trans ?_ (Vector.getElem_ofFn h).symm)
    cases s.stem.orders[(⟨i, h⟩ : Fin 12)] <;> rfl
  have stopping : placed.enterStopped = stopped.activate := by
    have stem : s.stem.stop = stopped.stem := 
      (stop_eq _).trans (congrArg (fun o => { s.stem with view := none, orders := o }) orders)
    exact congrArg (fun u : StemUnit => State.activate { stopped with stem := u }) stem
  have inStopped (h : s.safety.output = .stopped) : u = placed := by rw [eq, h]; rfl
  have inRun (h : s.safety.output = .run) : u = stopped.activate := by rw [eq, h]; exact stopping
  refine ⟨inStopped, inRun, ?_, ?_, captureStop_severity s cls sender isLocal⟩
  · cases h : s.safety.output with
    | run => rw [inRun h]; exact activate_output _
    | stopped => rw [inStopped h]; exact h
  · cases h : s.safety.output with
    | run => rw [inRun h]; exact activate_arming _
    | stopped => rw [inStopped h]

/-! ### The change of stem state -/

theorem enterStem_feed_off {new : StemState} (s : State) (h : new = .noStem ∨ new = .topped) :
    (s.enterStem new).feed.mode = .manual ∧
      (s.feed.mode = .auto → (s.enterStem new).feed.demand = 0 ∧ (s.enterStem new).feed.expiry = none) := by
  rcases h with rfl | rfl
  · exact ⟨toManual_mode _, fun auto => by
      show s.feed.toManual.free.demand = 0 ∧ s.feed.toManual.free.expiry = none
      rw [toManual_of_auto auto]; exact ⟨rfl, rfl⟩⟩
  · exact ⟨toManual_mode _, fun auto => by
      show s.feed.toManual.demand = 0 ∧ s.feed.toManual.expiry = none
      rw [toManual_of_auto auto]; exact ⟨rfl, rfl⟩⟩

theorem enterStem_feed_on {new : StemState} (s : State) (open_ : new ≠ .noStem) (bottom : new ≠ .topped) :
    (s.enterStem new).feed = s.feed := by
  simp [State.enterStem, open_, bottom]

/-- Settles O11: the change of stem state, block by block. -/
theorem stemStateChangesReachTheBlocks : Obligations.StemStateChangesReachTheBlocks := by
  intro s new u
  refine ⟨rfl, fun noStem => ?_, fun open_ => ⟨if_neg open_, if_neg open_, if_neg fun both => open_ both.1⟩,
    enterStem_feed_off s, enterStem_feed_on s, rfl, rfl, rfl⟩
  subst noStem
  refine ⟨rfl, clear_buckets s.profile, rfl, rfl, rfl, rfl, fun requested => ?_⟩
  have discarded : u.saw = s.saw.discard := if_pos ⟨rfl, requested⟩
  rw [discarded]
  exact ⟨rfl, rfl, rfl⟩

end Sys2Proof.Proofs.Shared
end

section
/-! PROOFS. Frames that no block acts on (R24 to R27, R172) and frames that silence the station (R41). -/

namespace Sys2Proof.Proofs.Observed

open Sys2Proof.Machine Sys2Proof.Proofs.Effects Sys2Proof.Proofs.Hearing

variable {c : Instr} {f : RawFrame} {s v : State} {t : Nat}

/-- Settles O1: the step function by the front of the queue. -/
theorem stepRunsFrontCommand : Obligations.StepRunsFrontCommand :=
  ⟨fun _ _ _ front => by simp only [step, front], fun _ idle => by simp only [step, idle]⟩

/-! ### Codes (2.6) -/

theorem cutKind_code {b : Byte} {k : CutKind} (h : CutKind.ofCode b = some k) : b.toNat ≤ 2 := by
  unfold CutKind.ofCode at h
  split at h
  · omega
  · omega
  · omega
  · cases h

theorem holdOutcome_code {b : Byte} {k : HoldOutcome} (h : HoldOutcome.ofCode b = some k) : b.toNat ≤ 2 := by
  unfold HoldOutcome.ofCode at h
  split at h
  · omega
  · omega
  · omega
  · cases h

theorem rejectReason_code {b : Byte} {k : RejectReason} (h : RejectReason.ofCode b = some k) : b.toNat ≤ 1 := by
  unfold RejectReason.ofCode at h
  split at h
  · omega
  · omega
  · cases h

theorem flag_code {b : Byte} {k : Bool} (h : flagOfCode b = some k) : b.toNat ≤ 1 := by
  unfold flagOfCode at h
  split at h
  · omega
  · omega
  · cases h

theorem feedMode_code {b : Byte} {k : FeedMode} (h : FeedMode.ofCode b = some k) : b.toNat ≤ 1 := by
  unfold FeedMode.ofCode at h
  split at h
  · omega
  · omega
  · cases h

theorem orderIndex_code {b : Byte} {k : OrderIndex} (h : OrderIndex.ofCode b = some k) : b.toNat ≤ 11 ∨ b.toNat = 255 := by
  unfold OrderIndex.ofCode at h
  split at h
  · omega
  · split at h
    · omega
    · cases h

theorem peerRole_code {b : Byte} {k : PeerRole} (h : PeerRole.ofCode b = some k) : b.toNat ≤ 4 := by
  unfold PeerRole.ofCode at h
  split at h
  · omega
  · omega
  · omega
  · omega
  · omega
  · cases h

theorem announcePhase_code {b : Byte} {k : Phase} (h : Phase.ofAnnounce b = some k) : b.toNat ≤ 1 := by
  unfold Phase.ofAnnounce at h
  split at h
  · omega
  · omega
  · cases h

theorem stemState_code {b : Byte} {k : StemState} (h : StemState.ofCode b = some k) : b.toNat ≤ 5 := by
  unfold StemState.ofCode at h
  split at h
  · omega
  · omega
  · omega
  · omega
  · omega
  · omega
  · cases h

theorem cutCodesOk_of_some {kind index : Byte} {k : CutKind} {x : OrderIndex} (hk : CutKind.ofCode kind = some k)
    (hx : OrderIndex.ofCode index = some x) : cutCodesOk kind index = true := by
  have kindOk := cutKind_code hk
  have indexOk := orderIndex_code hx
  simp [cutCodesOk, kindOk, indexOk]

theorem cutCodesOk_zero {index : Byte} {x : OrderIndex} (hx : OrderIndex.ofCode index = some x) :
    cutCodesOk 0 index = true := cutCodesOk_of_some (k := .fell) rfl hx

/-! ### A recorded frame that its block leaves alone -/

/-- The block's own handling, where there is one, leaves the recorded state as it is. -/
theorem observeFor_stands {body : Option (State → State)} (awake : s.phase ≠ .silent)
    (own : f.sender = s.identity → s.isOwn f = true) (stands : ∀ g ∈ body, g (s.record t f) = s.record t f) :
    (s.observeFor t f body).done = .next (s.record t f).refresh := by
  have observed : s.observeFor t f body = s.record t f := by
    refine (observe_recorded awake own).trans ?_
    split
    · cases body with
      | none => rfl
      | some g => exact stands g rfl
    · rfl
  exact congrArg State.done observed

/-- The stem-serial filter, and OPERATING (R26, R172). -/
theorem inStem_unheard {serial : Half} (g : State → State)
    (h : v.stem.state = .noStem ∨ serial ≠ v.stem.serial ∨ v.phase = .start) : v.inStem serial g = v := by
  refine if_neg ?_
  rintro ⟨operating, filter⟩
  simp only [State.serialFilter, Bool.and_eq_true, decide_eq_true_eq] at filter
  obtain ⟨stem, same⟩ := filter
  rcases h with noStem | other | start
  · exact stem noStem
  · exact other same
  · rw [start] at operating; cases operating

theorem inOperating_start (g : State → State) (start : v.phase = .start) : v.inOperating g = v :=
  if_neg (by rw [start]; decide)

theorem not_addressed {a : Byte} (other : a.toNat ≠ v.identity.val) (notAll : a.toNat ≠ 255) : v.addressed a = false := by
  simp [State.addressed, other, notAll]

/-- A frame of a stem in NO STEM, of another serial or in START (R26, R172). -/
theorem exec_otherStem {serial : Half} (frame : observedFrame c = some f) (awake : s.phase ≠ .silent)
    (own : f.sender = s.identity → s.isOwn f = true) (ofStem : Instr.stemSerial c = some serial)
    (unheard : s.stem.state = .noStem ∨ serial ≠ s.stem.serial ∨ s.phase = .start) :
    exec c s = .next (s.record (Instr.time c) f).refresh := by
  cases c with
  | holdRequest | holdGrant | cutStart | cutDone | halted | orderReject =>
    cases frame; cases ofStem
    refine observeFor_stands awake own fun g hg => ?_
    split at hg
    · cases hg; exact inStem_unheard _ unheard
    · cases hg
  | holdRelease =>
    cases frame; cases ofStem
    refine observeFor_stands awake own fun g hg => ?_
    split at hg
    · cases hg; exact inStem_unheard _ unheard
    · cases hg
  | cutCommand =>
    cases frame; cases ofStem
    refine observeFor_stands awake own fun g hg => ?_
    obtain ⟨k, -, rfl⟩ := Option.map_eq_some_iff.mp hg
    exact inStem_unheard _ unheard
  | stemClose | order =>
    cases frame; cases ofStem
    exact observeFor_stands awake own fun g hg => by cases hg; exact inStem_unheard _ unheard
  | _ => cases ofStem

/-- A frame addressed to another station (R27). -/
theorem exec_otherAddressee {a : Byte} (frame : observedFrame c = some f) (awake : s.phase ≠ .silent)
    (own : f.sender = s.identity → s.isOwn f = true) (addressed : Instr.addressee c = some a)
    (other : a.toNat ≠ s.identity.val) (notAll : a.toNat ≠ 255) :
    exec c s = .next (s.record (Instr.time c) f).refresh := by
  cases c with
  | clearFault | queryStation | queryTrack | queryFault | queryPeer | queryOrder | queryCal | queryLink | setup =>
    cases frame; cases addressed
    exact observeFor_stands awake own fun g hg => by
      cases hg; exact if_neg (Bool.eq_false_iff.mp (not_addressed other notAll))
  | _ => cases addressed

/-- A frame with a coded field outside its table (R24 step 5, R38, R43). -/
theorem exec_uncoded (frame : observedFrame c = some f) (awake : s.phase ≠ .silent)
    (own : f.sender = s.identity → s.isOwn f = true) (uncoded : Instr.codesOk c = false) :
    exec c s = .next (s.record (Instr.time c) f).refresh := by
  cases c with
  | announce t i role phase stem revision =>
    cases frame
    refine congrArg State.done ((observe_recorded awake own).trans ?_)
    split
    · next hr hp hm =>
      have roleOk := peerRole_code hr
      have phaseOk := announcePhase_code hp
      have stemOk := stemState_code hm
      simp [Instr.codesOk, roleOk, phaseOk, stemOk] at uncoded
    · rfl
  | motion t i seq total contact =>
    cases frame
    refine congrArg State.done ((observe_recorded awake own).trans ?_)
    split
    · next hc => simp [Instr.codesOk, flag_code hc] at uncoded
    · rfl
  | stopNotice t i kind serial =>
    cases frame
    refine observeFor_stands awake own fun g hg => ?_
    split at hg
    · next ok =>
      simp only [Instr.codesOk] at uncoded
      exact absurd ok (by rw [stopKindOk, uncoded]; decide)
    · cases hg
  | holdRequest | holdGrant | cutStart | cutDone =>
    cases frame
    refine observeFor_stands awake own fun g hg => ?_
    split at hg
    · next hk hx => simp [Instr.codesOk, cutCodesOk_of_some hk hx] at uncoded
    · cases hg
  | holdRelease =>
    cases frame
    refine observeFor_stands awake own fun g hg => ?_
    split at hg
    · next hk hx ho => simp [Instr.codesOk, cutCodesOk_of_some hk hx, holdOutcome_code ho] at uncoded
    · cases hg
  | halted =>
    cases frame
    refine observeFor_stands awake own fun g hg => ?_
    split at hg
    · next hx ho =>
      simp only [Instr.codesOk, cutCodesOk_zero hx, Bool.true_and, decide_eq_false_iff_not] at uncoded
      exact absurd (flag_code ho) uncoded
    · cases hg
  | orderReject =>
    cases frame
    refine observeFor_stands awake own fun g hg => ?_
    split at hg
    · next hx ho =>
      simp only [Instr.codesOk, cutCodesOk_zero hx, Bool.true_and, decide_eq_false_iff_not] at uncoded
      exact absurd (rejectReason_code ho) uncoded
    · cases hg
  | feedMode =>
    cases frame
    refine observeFor_stands awake own fun g hg => ?_
    obtain ⟨m, hm, -⟩ := Option.map_eq_some_iff.mp hg
    simp [Instr.codesOk, feedMode_code hm] at uncoded
  | cutCommand =>
    cases frame
    refine observeFor_stands awake own fun g hg => ?_
    obtain ⟨k, hk, -⟩ := Option.map_eq_some_iff.mp hg
    simp [Instr.codesOk, cutKind_code hk] at uncoded
  | _ => cases uncoded

/-- A frame that START ignores (R77, R172). -/
theorem exec_ignoredInStart (frame : observedFrame c = some f) (awake : s.phase ≠ .silent)
    (own : f.sender = s.identity → s.isOwn f = true) (start : s.phase = .start) (ignored : Instr.ignoredInStart c = true) :
    exec c s = .next (s.record (Instr.time c) f).refresh := by
  cases c with
  | releasePrepare | releaseConfirm | feedDemand | stemOpen | diameter =>
    cases frame
    exact observeFor_stands awake own fun g hg => by cases hg; exact inOperating_start _ start
  | feedMode =>
    cases frame
    refine observeFor_stands awake own fun g hg => ?_
    obtain ⟨m, -, rfl⟩ := Option.map_eq_some_iff.mp hg
    exact inOperating_start _ start
  | holdRequest | holdGrant | holdRelease | cutStart | cutDone | halted | orderReject | cutCommand | stemClose | order =>
    exact exec_otherStem frame awake own rfl (.inr (.inr start))
  | _ => cases ignored

/-- The station's own ANNOUNCE (R35). -/
theorem exec_ownAnnounce (frame : observedFrame c = some f) (awake : s.phase ≠ .silent)
    (own : f.sender = s.identity → s.isOwn f = true) (announce : f.cls = .announce) (self : f.sender = s.identity) :
    exec c s = .next (s.record (Instr.time c) f).refresh := by
  cases c with
  | announce t i role phase stem revision =>
    cases frame
    refine congrArg State.done ((observe_recorded awake own).trans ?_)
    split
    · exact if_pos self
    · rfl
  | otherFrameObserved => cases frame; exact congrArg State.done (observe_recorded awake own)
  | _ => cases frame <;> cases announce

/-- Settles O25: each reason for which no block acts on a frame, and SILENT. -/
theorem unheardFramesReachNoBlock : Obligations.UnheardFramesReachNoBlock := by
  refine ⟨fun c f s frame awake own => ?_, fun c f s frame silent => exec_silent frame silent⟩
  refine ⟨?_, exec_unfiltered frame awake own, fun serial ofStem unheard => ?_,
    fun a addressed => exec_otherAddressee frame awake own addressed, exec_uncoded frame awake own,
    exec_ignoredInStart frame awake own, exec_ownAnnounce frame awake own⟩
  · rintro ⟨t, i, cls, payload, rfl⟩
    cases frame
    exact congrArg State.done (observe_recorded awake own)
  · exact exec_otherStem frame awake own ofStem (unheard.imp_right .inl)

/-! ### The identity conflict (R41) -/

theorem placeHandshake_record_stop (v : State) (frame : Frame) (stop : v.safety.record.severity = .stop) :
    ∃ n, (v.placeHandshake frame).safety.record = { v.safety.record with laterCount := n } := by
  unfold State.placeHandshake
  split
  · exact ⟨_, rfl⟩
  · split
    · exact ⟨_, rfl⟩
    · exact ⟨_, Shared.takeCapture_counts (by rw [stop]; decide) (by rw [stop]; exact (by decide : (1 : Nat) ≤ 3))⟩

/-- Activation leaves a record of severity STOP but for its later count. -/
theorem activate_record_stop (v : State) (stop : v.safety.record.severity = .stop) :
    ∃ n, v.activate.safety.record = { v.safety.record with laterCount := n } := by
  obtain same | ⟨i, o, -, -, -, -, -, -, eq⟩ := activate_cases v
  · rw [same]; exact ⟨_, rfl⟩
  · rw [eq]
    unfold State.judgePassed
    split
    · exact placeHandshake_record_stop _ _ stop
    · exact ⟨_, rfl⟩

/-- A capture of STOP severity into a record of a lower one names it. -/
theorem captureStop_record (v : State) {k : FaultKind} (cls : Option FrameClass) (sender : Option Ident) (isLocal : Bool)
    (severity : k.severity = .stop) (lower : v.safety.record.severity ≠ .stop) :
    (v.captureStop k cls sender isLocal).safety.record.kind = some k ∧
      (v.captureStop k cls sender isLocal).safety.record.causeClass = cls ∧
      (v.captureStop k cls sender isLocal).safety.record.causeSender = sender := by
  have fills : v.safety.record.severity = .none ∨ v.safety.record.severity.code < (v.captureFields k cls sender).severity.code := by
    have new : (v.captureFields k cls sender).severity = .stop := severity
    rw [new]
    revert lower
    cases v.safety.record.severity <;> decide
  have taken : takeCapture v.safety.record (v.captureFields k cls sender) = _ := Shared.takeCapture_fills rfl fills
  rw [Shared.captureStop_eq]
  dsimp only
  split
  · unfold State.enterStopped
    obtain ⟨n, record⟩ := activate_record_stop
      (v := { v.report k cls sender with
        safety.arming := none
        link.stopSlot := if isLocal = true ∧ v.phase ≠ .silent then some ⟨.stopNotice k v.stem.serial, 0⟩ else v.link.stopSlot
        safety.output := .stopped
        feed := if v.role = .feed then v.feed.stop else v.feed
        saw := if v.role = .saw then v.saw.discard else v.saw
        stem := v.stem.stop }) (Shared.takeCapture_stop _ severity)
    refine ⟨(congrArg FaultRecord.kind record).trans ?_, (congrArg FaultRecord.causeClass record).trans ?_,
      (congrArg FaultRecord.causeSender record).trans ?_⟩
    · exact congrArg FaultRecord.kind taken
    · exact congrArg FaultRecord.causeClass taken
    · exact congrArg FaultRecord.causeSender taken
  · exact ⟨congrArg FaultRecord.kind taken, congrArg FaultRecord.causeClass taken, congrArg FaultRecord.causeSender taken⟩

theorem captureStop_output (v : State) (k : FaultKind) (cls : Option FrameClass) (sender : Option Ident) (isLocal : Bool) :
    (v.captureStop k cls sender isLocal).safety.output = .stopped :=
  (Shared.stopCapturesEnterStopped v k cls sender isLocal).2.2.1

/-- Settles O26: the capture of ID CONFLICT, the entry into SILENT, and what follows the state. -/
theorem foreignOwnIdentitySilencesTheStation : Obligations.ForeignOwnIdentitySilencesTheStation := by
  intro c f s frame awake same foreign
  have run := exec_idConflict frame ⟨awake, same, foreign⟩
  refine ⟨_, run, rfl, captureStop_output .., (Silent.quiet_refresh (Silent.enterSilent_quiet _)).2,
    Shared.captureStop_severity _ _ _ _ rfl, fun lower => captureStop_record _ _ _ _ rfl lower, fun i => ?_, fun i other => ?_,
    ?_, ?_, ?_⟩
  · exact (Follow.channel_off (Follow.refresh_settled _) (.inr (by simp [State.idConflict])) i).1
  · rw [Invariants.getElem_refresh_peers, if_neg (by simpa [State.idConflict] using other)]
    simp [State.idConflict]
  · simp [State.idConflict]
  · simp [State.idConflict]
  · simp [State.idConflict]

end Sys2Proof.Proofs.Observed
end

section
/-! PROOFS. The Capture Unit (Chapter 1): input edges, the chain period and the sample instant. -/

namespace Sys2Proof.Proofs.Sampling

open Sys2Proof.Machine Sys2Proof.Proofs.Effects

variable {s : State} {t : Nat}

/-! ### Input edges (R3, R13, R14) -/

/-- A capture channel after a transition of the line pair of a channel. -/
def edged (s : State) (ch k : Fin 3) (pair : Bool × Bool) : CapChannel :=
  if k = ch then (s.chan k).transition pair else s.chan k

theorem exec_quadratureTransition (t : Nat) (ch : Fin 3) (l1 l2 : Bool) (s : State) :
    exec (.quadratureTransition t ch l1 l2) s =
      .next (State.refresh
        { s with
          now := max s.now t
          capture.cap0 := edged s ch 0 (l1, l2)
          capture.cap1 := edged s ch 1 (l1, l2)
          capture.cap2 := edged s ch 2 (l1, l2) }) := by
  fin_cases ch <;> rfl

/-- The total of a channel follows the cycle of the line pair (R3). -/
theorem countTransition_cycle (old new : Bool × Bool) (total : Word) :
    let cycle : List ((Bool × Bool) × (Bool × Bool)) :=
      [((false, false), (true, false)), ((true, false), (true, true)), ((true, true), (false, true)),
        ((false, true), (false, false))]
    ((old, new) ∈ cycle → countTransition old new total = total + 1) ∧
      ((new, old) ∈ cycle → countTransition old new total = total - 1) ∧
      ((old, new) ∉ cycle → (new, old) ∉ cycle → countTransition old new total = total) := by
  obtain ⟨o1, o2⟩ := old
  obtain ⟨n1, n2⟩ := new
  cases o1 <;> cases o2 <;> cases n1 <;> cases n2 <;> simp [countTransition, forwardOf]

theorem gateBlockEdge_measure (measure : s.role = .measure) (clear : s.capture.gateBlocked = false) :
    exec (.gateBlockEdge t) s =
      (if s.phase = .operating then State.publishGate { s.clock t with capture.gateBlocked := true }
       else { s.clock t with capture.gateBlocked := true } : State).done :=
  congrArg State.done (if_pos ⟨measure, clear⟩)

/-- Settles O12: a transition channel by channel, an edge of the gate by role and phase. -/
theorem inputEdgesAreFollowed : Obligations.InputEdgesAreFollowed := by
  refine ⟨fun t ch l1 l2 s => ?_, fun t s => ⟨fun measure clear operating => ?_, fun measure clear other => ?_,
    fun measure => congrArg State.done (if_pos measure), fun other => ⟨congrArg State.done (if_neg fun both => other both.1),
      congrArg State.done (if_neg other)⟩⟩⟩
  · refine ⟨_, exec_quadratureTransition t ch l1 l2 s, ?_⟩
    intro cycle
    have after (k : Fin 3) : (State.refresh
        { s with
          now := max s.now t
          capture.cap0 := edged s ch 0 (l1, l2)
          capture.cap1 := edged s ch 1 (l1, l2)
          capture.cap2 := edged s ch 2 (l1, l2) }).chan k = edged s ch k (l1, l2) := by
      fin_cases k <;> rfl
    have own : edged s ch ch (l1, l2) = (s.chan ch).transition (l1, l2) := if_pos rfl
    rw [after ch, own]
    refine ⟨fun other => if_neg other, fun quadrature => ?_, fun k other => (after k).trans (if_neg other), rfl⟩
    rw [CapChannel.transition, if_pos quadrature]
    exact ⟨rfl, countTransition_cycle ..⟩
  · rw [gateBlockEdge_measure measure clear, if_pos operating]
    rfl
  · rw [gateBlockEdge_measure measure clear, if_neg other]; rfl

/-! ### The chain period (R5, R6, R135) -/

/-- A delivery that does not start the cut is stored in OPERATING in a SAW station (R127). -/
theorem deliverPeriod_stands {period : Option Nat} (h : s.saw.state ≠ .spin ∨ chainAtSpeed s.settings period = false) :
    s.deliverPeriod period =
      { s with saw.lastPeriod := if s.role = .saw ∧ s.phase = .operating then period else s.saw.lastPeriod } := by
  unfold State.deliverPeriod
  split
  · dsimp only
    split
    · next spin _ => rw [if_neg (by simpa [spin] using h)]
    · rfl
  · rfl

/-- A delivery in SPIN at or below the threshold starts the cut (R135). -/
theorem deliverPeriod_cut {period : Option Nat} {r : SawRecord} (saw : s.role = .saw) (operating : s.phase = .operating)
    (spin : s.saw.state = .spin) (record : s.saw.record = some r) (atSpeed : chainAtSpeed s.settings period = true) :
    s.deliverPeriod period = State.startCut { s with saw.lastPeriod := period } r := by
  unfold State.deliverPeriod
  rw [if_pos ⟨saw, operating⟩]
  simp only [spin, record, atSpeed, if_true]

theorem startCut_room (r : SawRecord) (awake : s.phase ≠ .silent) (room : s.link.handshake.length < 4) :
    s.startCut r =
      { s with
        link.handshake := s.link.handshake ++ [⟨.cutStart s.stem.serial r.kind r.index r.attempt, 0⟩]
        saw.state := .down
        saw.grantTimer := none
        saw.chainTimer := none
        saw.cutTimer := some (s.now + s.settings.cutTimeout * 1000)
        saw.returnTimer := none } := by
  unfold State.startCut
  rw [s.placeHandshake_room _ awake room]
  rfl

/-- An edge up to 10 ms after the last measures the period (R5). -/
theorem chainRisingEdge_gap {te gap : Nat} (mode : s.capture.cap2.mode = .period) (last : s.capture.cap2.lastEdge = some te)
    (moment : max s.now t = te + gap) (low : 1 ≤ gap) (high : gap ≤ 10000) :
    exec (.chainRisingEdge t) s =
      (State.deliverPeriod
        { s.clock t with capture.cap2.lastEdge := some (max s.now t), capture.cap2.period := some gap }
        (some gap)).done := by
  have between : (s.clock t).now - te = gap := by rw [State.clock_now, moment]; omega
  refine congrArg State.done ((if_pos mode).trans ?_)
  simp only [State.clock_capture, last, between]
  refine (if_pos high).trans ?_
  unfold State.nextEdge
  rw [Nat.max_eq_right low]
  rfl

theorem chainRisingEdge_first (mode : s.capture.cap2.mode = .period) (last : s.capture.cap2.lastEdge = none) :
    exec (.chainRisingEdge t) s =
      .next (State.refresh { s with now := max s.now t, capture.cap2.lastEdge := some (max s.now t) }) := by
  refine congrArg State.done ((if_pos mode).trans ?_)
  simp only [State.clock_capture, last]
  rfl

theorem chainPeriodExpiry_last {te : Nat} (last : s.capture.cap2.lastEdge = some te) :
    exec (.chainPeriodExpiry t) s = (s.clockDue t (te + 10000)).expireChain.done := by
  simp only [exec, execChainPeriodExpiry, last]
  rfl

/-- Settles O13: the edge by the last one, and the delivery by the sequencer's state and the threshold. -/
theorem chainEdgesMeasureThePeriodAndStartTheCut : Obligations.ChainEdgesMeasureThePeriodAndStartTheCut := by
  refine ⟨fun t s => ⟨chainRisingEdge_first, fun te gap mode last moment low high other => ?_, fun te last => ?_,
    fun mode => congrArg State.done (if_neg mode)⟩, fun t te gap s r saw operating spin record mode last moment low high => ?_⟩
  · exact (chainRisingEdge_gap mode last moment low high).trans
      (congrArg State.done (deliverPeriod_stands (.inl other)))
  · exact (chainPeriodExpiry_last last).trans (congrArg State.done (deliverPeriod_stands (.inr rfl)))
  · intro b
    have measured := chainRisingEdge_gap mode last moment low high
    have awake : s.phase ≠ .silent := by rw [operating]; decide
    refine ⟨fun atSpeed room => measured.trans (congrArg State.done ?_), fun slow => measured.trans (congrArg State.done ?_)⟩
    · have cut := deliverPeriod_cut
        (s := { s.clock t with capture.cap2.lastEdge := some (max s.now t), capture.cap2.period := some gap }) saw operating
        spin record (period := some gap) (decide_eq_true atSpeed)
      exact cut.trans (startCut_room r awake room)
    · have stands := deliverPeriod_stands
        (s := { s.clock t with capture.cap2.lastEdge := some (max s.now t), capture.cap2.period := some gap })
        (period := some gap) (.inr (decide_eq_false (Nat.not_le.mpr slow)))
      rw [stands, if_pos ⟨saw, operating⟩]
      rfl

/-! ### The sample instant (1.4 to 1.7) -/

/-- The state at a sample instant, before the conversions: the clock at the due time and the timer started again (R7). -/
def instant (s : State) (t due : Nat) : State :=
  { s with
    now := max (max s.now t) due
    capture.sampleTimer := some (max (max s.now t) due + s.settings.samplePeriod * 1000) }

theorem exec_sampleInstant {due : Nat} (an0 an1 an2 an3 : Raw) (timer : s.capture.sampleTimer = some due) :
    exec (.sampleInstant t an0 an1 an2 an3) s =
      (fun v : State => (v.deliverFlags v.capture.barHome v.capture.barEnd).approachStep.done)
        ((instant s t due).convert an0 an1 an2 an3).publish := by
  simp only [exec, execSampleInstant, timer]
  rfl

/-- The flags are delivered to a SAW station alone (R11). -/
theorem deliverFlags_other {home atEnd : Bool} (other : s.role ≠ .saw) : s.deliverFlags home atEnd = s :=
  if_neg fun both => other both.1

theorem approachStep_manual (manual : s.feed.mode = .manual) : s.approachStep = s :=
  if_neg fun all => by simp [manual] at all

theorem approachStep_other (other : s.role ≠ .feed) : s.approachStep = s :=
  if_neg fun all => other all.1

/-- A FEED station at a sample instant, before the approach. -/
def feedSample (s : State) (t due : Nat) (an0 : Raw) : State :=
  { s with
    now := max (max s.now t) due
    capture.sampleTimer := some (max (max s.now t) due + s.settings.samplePeriod * 1000)
    capture.ownDiameter := ownDiameterOf s.settings an0
    capture.rollerSeq := s.capture.rollerSeq + 1
    link.rollerSlot := some ⟨.roller s.capture.rollerSeq s.capture.cap0.total s.capture.cap1.total, 0⟩
    link.diameterSlot := some ⟨.diameter (ownDiameterOf s.settings an0), 0⟩ }

section Roles

variable {v : State} (an0 an1 an2 an3 : Raw)

theorem convert_feed (h : v.role = .feed) :
    v.convert an0 an1 an2 an3 = { v with capture.ownDiameter := ownDiameterOf v.settings an0 } := by
  unfold State.convert; rw [h]

theorem convert_measure (h : v.role = .measure) :
    v.convert an0 an1 an2 an3 = { v with capture.contact := contactOf v.settings an1 } := by
  unfold State.convert; rw [h]

theorem convert_knife (h : v.role = .knife) :
    v.convert an0 an1 an2 an3 = { v with capture.ownDiameter := ownDiameterOf v.settings an2 } := by
  unfold State.convert; rw [h]

theorem convert_saw (h : v.role = .saw) :
    v.convert an0 an1 an2 an3 =
      { v with capture.barHome := barHomeOf v.settings an3, capture.barEnd := barEndOf v.settings an3 } := by
  unfold State.convert; rw [h]

theorem publish_feed (h : v.role = .feed) : v.publish = v.publishRoller.publishDiameter := by
  unfold State.publish; rw [h]

theorem publish_measure (h : v.role = .measure) : v.publish = v.publishMotion := by
  unfold State.publish; rw [h]

theorem publish_knife (h : v.role = .knife) : v.publish = v.publishDiameter := by
  unfold State.publish; rw [h]

theorem publish_saw (h : v.role = .saw) : v.publish = v := by
  unfold State.publish; rw [h]

theorem sample_feed {due : Nat} (feed : s.role = .feed) :
    ((instant s t due).convert an0 an1 an2 an3).publish = feedSample s t due an0 := by
  rw [convert_feed an0 an1 an2 an3 (v := instant s t due) feed]
  exact publish_feed feed

theorem sample_measure {due : Nat} (measure : s.role = .measure) :
    ((instant s t due).convert an0 an1 an2 an3).publish =
      { instant s t due with
        capture.contact := contactOf s.settings an1
        capture.motionSeq := s.capture.motionSeq + 1
        link.motionSlot :=
          some ⟨.motion s.capture.motionSeq s.capture.cap2.total (contactOf s.settings an1), 0⟩ } := by
  rw [convert_measure an0 an1 an2 an3 (v := instant s t due) measure]
  exact publish_measure measure

theorem sample_knife {due : Nat} (knife : s.role = .knife) :
    ((instant s t due).convert an0 an1 an2 an3).publish =
      { instant s t due with
        capture.ownDiameter := ownDiameterOf s.settings an2
        link.diameterSlot := some ⟨.diameter (ownDiameterOf s.settings an2), 0⟩ } := by
  rw [convert_knife an0 an1 an2 an3 (v := instant s t due) knife]
  exact publish_knife knife

theorem sample_saw {due : Nat} (saw : s.role = .saw) :
    ((instant s t due).convert an0 an1 an2 an3).publish =
      { instant s t due with
        capture.barHome := barHomeOf s.settings an3
        capture.barEnd := barEndOf s.settings an3 } := by
  rw [convert_saw an0 an1 an2 an3 (v := instant s t due) saw]
  exact publish_saw saw

end Roles

theorem exec_sampleInstant_feed {due : Nat} (an0 an1 an2 an3 : Raw) (timer : s.capture.sampleTimer = some due)
    (feed : s.role = .feed) :
    exec (.sampleInstant t an0 an1 an2 an3) s = (feedSample s t due an0).approachStep.done := by
  have other : (feedSample s t due an0).role ≠ .saw := by simp [feedSample, feed]
  rw [exec_sampleInstant an0 an1 an2 an3 timer, sample_feed an0 an1 an2 an3 feed]
  dsimp only
  rw [deliverFlags_other other]

/-- Settles O14: conversion and publication by role. -/
theorem sampleInstantPublishes : Obligations.SampleInstantPublishes := by
  intro t an0 an1 an2 an3 s
  refine ⟨fun none => Timers.sampleInstant_idle an0 an1 an2 an3 none, fun due timer => ?_⟩
  have run := exec_sampleInstant (t := t) an0 an1 an2 an3 timer
  refine ⟨fun measure => ?_, fun knife => ?_, fun feed manual => ?_⟩
  · have role : (instant s t due).role = .measure := measure
    rw [run, sample_measure an0 an1 an2 an3 measure]
    dsimp only
    rw [deliverFlags_other (by simp [role]), approachStep_other (by simp [role])]
    rfl
  · have role : (instant s t due).role = .knife := knife
    rw [run, sample_knife an0 an1 an2 an3 knife]
    dsimp only
    rw [deliverFlags_other (by simp [role]), approachStep_other (by simp [role])]
    rfl
  · exact (exec_sampleInstant_feed an0 an1 an2 an3 timer feed).trans
      (congrArg State.done (approachStep_manual (s := feedSample s t due an0) manual))

/-! ### The bar flags (R137, R139, R140, R143) -/

section Flags

variable {first home atEnd : Bool} {r : SawRecord}

theorem testFlags_down (down : s.saw.state = .down) (record : s.saw.record = some r) :
    s.testFlags first home atEnd = if atEnd then s.finishCut r else s := by
  simp only [State.testFlags, down, record]

theorem testFlags_ret (ret : s.saw.state = .ret) (record : s.saw.record = some r) :
    s.testFlags first home atEnd =
      if home then (if r.cutDone then s.endHandshake r .done else s.settleAttempt r) else s := by
  simp only [State.testFlags, ret, record]

theorem testFlags_homing (ret : s.saw.state = .ret) (record : s.saw.record = none) :
    s.testFlags first home atEnd = if home then s.sawEnter .idle else s := by
  simp only [State.testFlags, ret, record]

theorem testFlags_idle (idle : s.saw.state = .idle) :
    s.testFlags first home atEnd =
      if first = true ∧ home = false ∧ s.safety.output = .run then s.startHoming else s := by
  simp only [State.testFlags, idle]

theorem testFlags_other (other : s.saw.state = .requested ∨ s.saw.state = .spin) : s.testFlags first home atEnd = s := by
  rcases other with requested | spin
  · simp only [State.testFlags, requested]
  · simp only [State.testFlags, spin]

/-- A delivery that the handshake state does not act on. -/
theorem testFlags_stands
    (h : s.saw.state = .requested ∨ s.saw.state = .spin ∨ (s.saw.state = .down ∧ atEnd = false) ∨
      (s.saw.state = .ret ∧ home = false) ∨
      (s.saw.state = .idle ∧ (first = false ∨ home = true ∨ s.safety.output = .stopped))) :
    s.testFlags first home atEnd = s := by
  rcases h with requested | spin | ⟨down, notEnd⟩ | ⟨ret, out⟩ | ⟨idle, h⟩
  · exact testFlags_other (.inl requested)
  · exact testFlags_other (.inr spin)
  · cases record : s.saw.record with
    | none => simp only [State.testFlags, down, record]
    | some r => rw [testFlags_down down record, notEnd]; rfl
  · cases record : s.saw.record with
    | none => rw [testFlags_homing ret record, out]; rfl
    | some r => rw [testFlags_ret ret record, out]; rfl
  · rw [testFlags_idle idle, if_neg]
    rintro ⟨isFirst, out, run⟩
    rcases h with other | isHome | stopped
    · simp [other] at isFirst
    · simp [isHome] at out
    · simp [stopped] at run

theorem testFlags_role (s : State) (first home atEnd : Bool) : (s.testFlags first home atEnd).role = s.role :=
  (Invariants.stands_of_moves (testFlags_moves (c := .lineIdle 0) (q := False) s first home atEnd)).role

end Flags

/-- A SAW station at a sample instant of OPERATING, before the sequencer tests the flags (R11, R127). -/
def sawSample (s : State) (t due : Nat) (an3 : Raw) : State :=
  { s with
    now := max (max s.now t) due
    capture.sampleTimer := some (max (max s.now t) due + s.settings.samplePeriod * 1000)
    capture.barHome := barHomeOf s.settings an3
    capture.barEnd := barEndOf s.settings an3
    saw.lastHome := barHomeOf s.settings an3
    saw.lastEnd := barEndOf s.settings an3
    saw.firstDelivery := false }

theorem exec_sampleInstant_saw {due : Nat} (an0 an1 an2 an3 : Raw) (timer : s.capture.sampleTimer = some due)
    (saw : s.role = .saw) (operating : s.phase = .operating) :
    exec (.sampleInstant t an0 an1 an2 an3) s =
      ((sawSample s t due an3).testFlags s.saw.firstDelivery (barHomeOf s.settings an3) (barEndOf s.settings an3)).done := by
  have other : ((sawSample s t due an3).testFlags s.saw.firstDelivery (barHomeOf s.settings an3)
      (barEndOf s.settings an3)).role ≠ .feed := by
    rw [testFlags_role]
    exact fun feed => by cases saw.symm.trans feed
  rw [exec_sampleInstant an0 an1 an2 an3 timer, sample_saw an0 an1 an2 an3 saw]
  refine .trans (congrArg (fun v : State => v.approachStep.done) (if_pos ⟨saw, operating⟩)) ?_
  exact congrArg State.done (approachStep_other other)

/-- Settles O15: the delivery by the handshake state. -/
theorem barFlagsMoveTheSequencer : Obligations.BarFlagsMoveTheSequencer := by
  intro t an0 an1 an2 an3 s due saw operating timer home atEnd b run
  have tested : run = (b.testFlags s.saw.firstDelivery home atEnd).done :=
    exec_sampleInstant_saw an0 an1 an2 an3 timer saw operating
  refine ⟨fun r down record ended => ?_, fun r ret record isHome cutDone => ?_, fun r ret record isHome notDone more => ?_,
    fun r ret record isHome notDone noMore => ?_, fun ret record isHome => ?_, fun idle first out output => ?_,
    fun stands => tested.trans (congrArg State.done (testFlags_stands stands))⟩
  · rw [tested, testFlags_down (s := b) down record, if_pos ended]; rfl
  · rw [tested, testFlags_ret (s := b) ret record, if_pos isHome, if_pos cutDone]; rfl
  · rw [tested, testFlags_ret (s := b) ret record, if_pos isHome, if_neg (by simp [notDone])]
    exact congrArg State.done (if_pos more)
  · rw [tested, testFlags_ret (s := b) ret record, if_pos isHome, if_neg (by simp [notDone])]
    exact congrArg State.done (if_neg (Nat.not_le.mpr noMore))
  · rw [tested, testFlags_homing (s := b) ret record, if_pos isHome]; rfl
  · rw [tested, testFlags_idle (s := b) idle, if_pos ⟨first, out, output⟩]; rfl

end Sys2Proof.Proofs.Sampling
end

section
/-! PROOFS. The approach of the Feed Controller at a sample instant (R116 to R120). -/

namespace Sys2Proof.Proofs.Approach

open Sys2Proof.Machine Sys2Proof.Proofs.Effects Sys2Proof.Proofs.Sampling

variable {s v : State} {i : Fin 12} {o : Order}

/-! ### Whether and how an order is approached (R116) -/

theorem activeOrder_of_index (active : v.activeIndex = some i) : v.activeOrder = v.stem.orders[i] := by
  unfold State.activeOrder; rw [active]

/-- A FEED station in OPERATING and AUTO. -/
structure InAuto (v : State) : Prop where
  role : v.role = .feed
  operating : v.phase = .operating
  auto : v.feed.mode = .auto

/-- A station in AUTO with an order to approach: the ACTIVE one, on a zeroed track, in RUNNING or AT MARK. -/
structure Approaches (v : State) (i : Fin 12) (o : Order) : Prop extends InAuto v where
  stem : v.stem.state = .running ∨ v.stem.state = .atMark
  zeroed : v.fusion.zeroed = true
  active : v.activeIndex = some i
  held : v.stem.orders[i] = some o

theorem approachStep_none (h : InAuto v)
    (idle : (v.stem.state ≠ .running ∧ v.stem.state ≠ .atMark) ∨ v.fusion.zeroed = false ∨ v.activeOrder = none) :
    v.approachStep = { v with feed.approachDuty := 0, feed.approachOrder := none } := by
  unfold State.approachStep
  rw [if_pos ⟨h.role, h.operating, h.auto⟩]
  split
  · next ready =>
    obtain ⟨stem, zeroed⟩ := ready
    rcases idle with ⟨notRunning, notAtMark⟩ | notZeroed | noOrder
    · exact absurd stem (not_or.mpr ⟨notRunning, notAtMark⟩)
    · rw [zeroed] at notZeroed; cases notZeroed
    · split
      · next held => rw [noOrder] at held; cases held
      · rfl
  · rfl

theorem approachStep_new (h : Approaches v i o) (new : v.feed.approachOrder ≠ some i) :
    v.approachStep = State.approachDrive { v with feed := v.feed.newApproach i } o := by
  have order := (activeOrder_of_index h.active).trans h.held
  unfold State.approachStep
  rw [if_pos ⟨h.role, h.operating, h.auto⟩, if_pos ⟨h.stem, h.zeroed⟩]
  simp only [h.active, order]
  rw [if_pos new]

/-- What a stage does in an approach that goes on. -/
def stageStep (v : State) (o : Order) : ApproachStage → State
  | .approach => v.approachDrive o
  | .settle => v.approachSettle o
  | .correct => v.approachCorrect o
  | .wait => v.approachTo .wait 0

theorem approachStep_on (h : Approaches v i o) (same : v.feed.approachOrder = some i) :
    v.approachStep = stageStep v o v.feed.stage := by
  have order := (activeOrder_of_index h.active).trans h.held
  unfold State.approachStep
  rw [if_pos ⟨h.role, h.operating, h.auto⟩, if_pos ⟨h.stem, h.zeroed⟩]
  simp only [h.active, order]
  rw [if_neg (not_not.mpr same)]
  cases v.feed.stage <;> rfl

/-! ### Stage APPROACH (R117) -/

theorem crossed_iff (previous : Option Int) (d : Int) :
    crossed previous d = true ↔ ∃ q, previous = some q ∧ ((0 < q ∧ d < 0) ∨ (q < 0 ∧ 0 < d)) := by
  cases previous with
  | none => simp [crossed]
  | some q => simp [crossed, mul_neg_iff]

/-- The Feed Controller once the distance `d` to the mark of the order at `i` is taken, in a new approach or the old one. -/
def approached (f : Feed) (i : Fin 12) (d : Int) : Feed :=
  { f with
    approachOrder := some i
    attempts := if decide (f.approachOrder ≠ some i) then 0 else f.attempts
    previousD := some d }

/-- Whether the mark has been crossed since the last instant of the approach to the order at `i`; a new approach has no last
instant. -/
def crossedOn (f : Feed) (i : Fin 12) (d : Int) : Bool := !decide (f.approachOrder ≠ some i) && crossed f.previousD d

/-- The distance to the mark of an order. -/
def distance (v : State) (o : Order) : Int := (o.target : Int) * 1000 - v.fusion.p

/-- Stage APPROACH at a distance: the bands, and the halt check where the mark was crossed or is near. -/
def drive (cross : Bool) (w : State) (d : Int) (o : Order) : State :=
  if cross then w.approachSettle o
  else if (w.settings.brakeDistance : Int) * 1000 < d then w.approachTo .approach w.settings.fullDuty
  else if (w.settings.haltWindow : Int) * 1000 < d then w.approachTo .approach w.settings.creepDuty
  else if d < -((w.settings.haltWindow : Int) * 1000) then w.approachTo .approach (-(w.settings.creepDuty : Int))
  else w.approachSettle o

theorem approachDrive_eq (v : State) (o : Order) :
    v.approachDrive o =
      drive (crossed v.feed.previousD (distance v o)) { v with feed.previousD := some (distance v o) } (distance v o) o := rfl

theorem drive_stage (cross : Bool) (w : State) (st : ApproachStage) (d : Int) (o : Order) :
    drive cross { w with feed.stage := st } d o = drive cross w d o := rfl

/-- An instant in stage APPROACH, or with a new ACTIVE order. -/
theorem approachStep_drives (h : Approaches v i o) (stage : v.feed.approachOrder ≠ some i ∨ v.feed.stage = .approach) :
    v.approachStep =
      drive (crossedOn v.feed i (distance v o)) { v with feed := approached v.feed i (distance v o) } (distance v o) o := by
  by_cases new : v.feed.approachOrder = some i
  · rw [approachStep_on h new, stage.resolve_left (not_not.mpr new)]
    refine (approachDrive_eq v o).trans ?_
    have cross : crossedOn v.feed i (distance v o) = crossed v.feed.previousD (distance v o) := by simp [crossedOn, new]
    have feed : approached v.feed i (distance v o) = { v.feed with previousD := some (distance v o) } := by
      simp [approached, new]
    rw [cross, feed]
  · have cross : crossedOn v.feed i (distance v o) = false := by simp [crossedOn, new]
    have feed : approached v.feed i (distance v o) =
        { v.feed with approachOrder := some i, attempts := 0, previousD := some (distance v o) } := by
      simp [approached, new]
    rw [approachStep_new h new, cross, feed]
    exact drive_stage false
      { v with feed := { v.feed with approachOrder := some i, attempts := 0, previousD := some (distance v o) } } .approach
      (distance v o) o

section Bands

variable {w : State} {d : Int} {cross : Bool}

theorem drive_full (on : cross = false) (far : (w.settings.brakeDistance : Int) * 1000 < d) :
    drive cross w d o = w.approachTo .approach w.settings.fullDuty := by
  unfold drive
  rw [on, if_neg (by decide), if_pos far]

theorem drive_creep (on : cross = false) (near : d ≤ (w.settings.brakeDistance : Int) * 1000)
    (short : (w.settings.haltWindow : Int) * 1000 < d) :
    drive cross w d o = w.approachTo .approach w.settings.creepDuty := by
  unfold drive
  rw [on, if_neg (by decide), if_neg (by omega), if_pos short]

theorem drive_back (on : cross = false) (near : d ≤ (w.settings.brakeDistance : Int) * 1000)
    (past : d < -((w.settings.haltWindow : Int) * 1000)) :
    drive cross w d o = w.approachTo .approach (-(w.settings.creepDuty : Int)) := by
  unfold drive
  rw [on, if_neg (by decide), if_neg (by omega), if_neg (by omega), if_pos past]

theorem drive_settles (h : cross = true ∨ (d ≤ (w.settings.brakeDistance : Int) * 1000 ∧
    d ≤ (w.settings.haltWindow : Int) * 1000 ∧ -((w.settings.haltWindow : Int) * 1000) ≤ d)) :
    drive cross w d o = w.approachSettle o := by
  unfold drive
  cases cross with
  | true => rfl
  | false =>
    obtain ⟨near, short, past⟩ := h.resolve_left (by decide)
    rw [if_neg (by decide), if_neg (by omega), if_neg (by omega), if_neg (by omega)]

end Bands

theorem approaches_sample {t due : Nat} (an0 : Raw) (h : Approaches s i o) : Approaches (feedSample s t due an0) i o :=
  { h with }

/-- Settles O16: the approach step by the stage, the distance and the crossing. -/
theorem approachFollowsTheBands : Obligations.ApproachFollowsTheBands := by
  intro t an0 an1 an2 an3 s due feed operating auto timer run mm b
  have stepped : run = b.approachStep.done := exec_sampleInstant_feed an0 an1 an2 an3 timer feed
  refine ⟨fun idle => stepped.trans (congrArg State.done (approachStep_none (v := b) ⟨feed, operating, auto⟩ idle)), ?_⟩
  intro i o stem zeroed active held fresh stage d brake window approached' drives crossed'
  have ready : Approaches s i o := ⟨⟨feed, operating, auto⟩, stem, zeroed, active, held⟩
  have isNew : s.feed.approachOrder ≠ some i ∨ s.feed.stage = .approach := stage.imp_left of_decide_eq_true
  have driven : run = (drive (crossedOn s.feed i d) { b with feed := approached' } d o).done :=
    stepped.trans (congrArg State.done (approachStep_drives (approaches_sample an0 ready) isNew))
  have crossing : crossedOn s.feed i d = true ↔ crossed' := by
    rw [crossedOn, Bool.and_eq_true, Bool.not_eq_true', crossed_iff]
  have on (h : ¬ crossed') : crossedOn s.feed i d = false := Bool.eq_false_iff.mpr (mt crossing.mp h)
  refine ⟨fun calm far => ?_, fun calm near short => ?_, fun calm near past => ?_, fun settles => ?_⟩
  · exact driven.trans (congrArg State.done (drive_full (on calm) far))
  · exact driven.trans (congrArg State.done (drive_creep (on calm) near short))
  · exact driven.trans (congrArg State.done (drive_back (on calm) near past))
  · have settled := driven.trans (congrArg State.done (drive_settles (settles.imp_left crossing.mpr)))
    have next : Approaches { s with feed := { approached' with stage := .settle } } i o := { ready with }
    have again := exec_sampleInstant_feed (t := t) (s := { s with feed := { approached' with stage := .settle } }) an0 an1
      an2 an3 timer feed
    exact settled.trans (again.trans (congrArg State.done (approachStep_on (approaches_sample an0 next) rfl))).symm

/-! ### Stages SETTLE, CORRECT and WAIT (R118 to R120) -/

/-- The halt error lies within the order's tolerances. -/
def InBand (o : Order) (e : Int) : Prop := -((o.tolMinus : Int) * 1000) ≤ e ∧ e ≤ (o.tolPlus : Int) * 1000

/-- The halt error: the position beyond the mark. -/
def haltError (v : State) (o : Order) : Int := v.fusion.p - (o.target : Int) * 1000

theorem withinTolerance_iff (o : Order) (e : Int) : withinTolerance o e = true ↔ InBand o e := by
  simp [withinTolerance, InBand]

/-- The stage set to the one that stands. -/
theorem approachTo_same {st : ApproachStage} (duty : Int) (h : v.feed.stage = st) :
    v.approachTo st duty = { v with feed.approachDuty := duty } := by
  subst h; rfl

theorem placeHandshake_feed_update (v : State) (x : Feed) (frame : Frame) :
    State.placeHandshake { v with feed := x } frame = { v.placeHandshake frame with feed := x } := by
  unfold State.placeHandshake; split <;> [rfl; split <;> rfl]

/-- HALTED placed, and WAIT, whatever stage and duty stood before (R120). -/
theorem placeHalted_eq (offsize : Bool) (st : ApproachStage) (duty : Int) (same : v.feed.approachOrder = some i) :
    (v.approachTo st duty).placeHalted offsize =
      { v.placeHandshake (.halted v.stem.serial (some i) v.fusion.p offsize) with
        feed.stage := .wait
        feed.approachDuty := 0 } := by
  have placed : (v.approachTo st duty).placeHalted offsize =
      State.approachTo
        (State.placeHandshake { v with feed := { v.feed with stage := st, approachDuty := duty } }
          (.halted v.stem.serial v.feed.approachOrder v.fusion.p offsize)) .wait 0 := rfl
  have feed := State.placeHandshake_feed v (.halted v.stem.serial (some i) v.fusion.p offsize)
  rw [placed, same, placeHandshake_feed_update]
  generalize v.placeHandshake (.halted v.stem.serial (some i) v.fusion.p offsize) = w at feed ⊢
  show { w with feed := { v.feed with stage := .wait, approachDuty := 0 } } = _
  rw [← feed]

section Settle

theorem settle_moving (moving : v.feed.stoppedCount ≠ 2) : v.approachSettle o = v.approachTo .settle 0 := if_pos moving

theorem settle_inBand (stopped : v.feed.stoppedCount = 2) (inBand : InBand o (haltError v o)) :
    v.approachSettle o = (v.approachTo .settle 0).placeHalted false :=
  (if_neg (not_not.mpr stopped)).trans (if_pos ((withinTolerance_iff ..).mpr inBand))

/-- The station with the attempt counted, stage SETTLE and duty 0. -/
def counted (v : State) : State := State.approachTo { v with feed.attempts := satAdd v.feed.attempts 1 } .settle 0

theorem settle_outOfBand (stopped : v.feed.stoppedCount = 2) (outOfBand : ¬ InBand o (haltError v o)) :
    v.approachSettle o =
      (if v.settings.haltAttempts < satAdd v.feed.attempts 1 then (counted v).placeHalted true
       else State.approachCorrect
        { counted v with feed.direction := if haltError v o < 0 then .forward else .reverse } o) :=
  (if_neg (not_not.mpr stopped)).trans (if_neg (mt (withinTolerance_iff ..).mp outOfBand))

theorem settle_exceeded (stopped : v.feed.stoppedCount = 2) (outOfBand : ¬ InBand o (haltError v o))
    (exceeded : v.settings.haltAttempts < satAdd v.feed.attempts 1) :
    v.approachSettle o = (counted v).placeHalted true :=
  (settle_outOfBand stopped outOfBand).trans (if_pos exceeded)

theorem settle_short (stopped : v.feed.stoppedCount = 2) (outOfBand : ¬ InBand o (haltError v o))
    (more : satAdd v.feed.attempts 1 ≤ v.settings.haltAttempts) (short : haltError v o < 0) :
    v.approachSettle o = State.approachCorrect { counted v with feed.direction := .forward } o := by
  rw [settle_outOfBand stopped outOfBand, if_neg (Nat.not_lt.mpr more), if_pos short]

theorem settle_beyond (stopped : v.feed.stoppedCount = 2) (outOfBand : ¬ InBand o (haltError v o))
    (more : satAdd v.feed.attempts 1 ≤ v.settings.haltAttempts) (beyond : 0 ≤ haltError v o) :
    v.approachSettle o = State.approachCorrect { counted v with feed.direction := .reverse } o := by
  rw [settle_outOfBand stopped outOfBand, if_neg (Nat.not_lt.mpr more), if_neg (Int.not_lt.mpr beyond)]

end Settle

section Correct

theorem correct_ended
    (ended : InBand o (haltError v o) ∨ (v.feed.direction = .forward ∧ 0 < haltError v o) ∨
      (v.feed.direction = .reverse ∧ haltError v o < 0)) :
    v.approachCorrect o = v.approachTo .settle 0 := by
  by_cases inBand : InBand o (haltError v o)
  · exact if_pos ((withinTolerance_iff ..).mpr inBand)
  · refine (if_neg (mt (withinTolerance_iff ..).mp inBand)).trans ?_
    rcases ended.resolve_left inBand with ⟨forward, past⟩ | ⟨reverse, past⟩
    · rw [forward]; exact if_pos past
    · rw [reverse]; exact if_pos past

theorem correct_forward (outOfBand : ¬ InBand o (haltError v o)) (forward : v.feed.direction = .forward)
    (short : ¬ 0 < haltError v o) : v.approachCorrect o = v.approachTo .correct v.settings.creepDuty := by
  refine (if_neg (mt (withinTolerance_iff ..).mp outOfBand)).trans ?_
  rw [forward]; exact if_neg short

theorem correct_reverse (outOfBand : ¬ InBand o (haltError v o)) (reverse : v.feed.direction = .reverse)
    (beyond : ¬ haltError v o < 0) : v.approachCorrect o = v.approachTo .correct (-(v.settings.creepDuty : Int)) := by
  refine (if_neg (mt (withinTolerance_iff ..).mp outOfBand)).trans ?_
  rw [reverse]; exact if_neg beyond

end Correct

/-- Settles O17: the halt check by the stage, the halt error and the attempts. -/
theorem haltCheckSettlesTheApproach : Obligations.HaltCheckSettlesTheApproach := by
  intro t an0 an1 an2 an3 s due i o feed operating auto timer stem zeroed active held same answers mm b e inBand creep
    attempts halts
  have ready : Approaches s i o := ⟨⟨feed, operating, auto⟩, stem, zeroed, active, held⟩
  have stepped {st : ApproachStage} (stage : s.feed.stage = st) :
      exec (.sampleInstant t an0 an1 an2 an3) s = (stageStep b o st).done := by
    refine (exec_sampleInstant_feed an0 an1 an2 an3 timer feed).trans (congrArg State.done ?_)
    rw [approachStep_on (approaches_sample an0 ready) same]
    exact congrArg (stageStep b o) stage
  have answer {st : ApproachStage} (stage : s.feed.stage = st) {u : State} (step : stageStep b o st = u) : answers u :=
    (stepped stage).trans (congrArg State.done step)
  refine ⟨fun stage => ⟨fun moving => ?_, fun stopped within => ?_, fun stopped out exceeded => ?_,
    fun stopped out more => ⟨fun short => ?_, fun beyond => ?_⟩⟩, fun stage => ?_, fun stage => ?_⟩
  · exact answer stage ((settle_moving (v := b) moving).trans (approachTo_same 0 stage))
  · exact answer stage ((settle_inBand (v := b) stopped within).trans (placeHalted_eq false .settle 0 same))
  · exact answer stage ((settle_exceeded (v := b) stopped out exceeded).trans
      (placeHalted_eq (v := { b with feed.attempts := attempts }) true .settle 0 same))
  · exact answer stage ((settle_short (v := b) stopped out more short).trans
      (correct_forward (v := { counted b with feed.direction := .forward }) out rfl (Int.not_lt.mpr (Int.le_of_lt short))))
  · exact answer stage ((settle_beyond (v := b) stopped out more beyond).trans
      (correct_reverse (v := { counted b with feed.direction := .reverse }) out rfl (Int.not_lt.mpr beyond)))
  · intro ended
    refine ⟨fun closed => answer stage (correct_ended (v := b) closed), fun on forward => ?_, fun on reverse => ?_⟩
    · obtain ⟨out, past⟩ := not_or.mp on
      have short : ¬ 0 < e := fun beyond => past (.inl ⟨forward, beyond⟩)
      exact answer stage ((correct_forward (v := b) out forward short).trans (approachTo_same _ stage))
    · obtain ⟨out, past⟩ := not_or.mp on
      have beyond : ¬ e < 0 := fun short => past (.inr ⟨reverse, short⟩)
      exact answer stage ((correct_reverse (v := b) out reverse beyond).trans (approachTo_same _ stage))
  · exact answer stage (approachTo_same 0 stage)

end Sys2Proof.Proofs.Approach
end

section
/-! PROOFS. The period boundary of the Valve Drivers (R147 to R152). -/

namespace Sys2Proof.Proofs.Boundary

open Sys2Proof.Machine

variable {c : Channel} {σ : Settings} {now current : Nat}

/-! ### Loading the buffer (R148, R149) -/

theorem switchOff_none (now : Nat) (off : c.side = none) : c.switchOff now = c := by
  unfold Channel.switchOff; rw [off]

theorem switchOff_some {x : Side} (now : Nat) (on : c.side = some x) :
    c.switchOff now = { c with side := none, lastStopped := some (x, now) } := by
  unfold Channel.switchOff; rw [on]

/-- The wanted side may be driven at this boundary: it runs already, or the other side is stopped here with a dead interval of
0, or it stopped longer ago than the dead interval (R149). -/
def Clear (c : Channel) (σ : Settings) (now : Nat) (x : Side) : Prop :=
  c.side = some x ∨ (c.side = some x.other ∧ σ.deadInterval * 1000 = 0) ∨
    (c.side = none ∧ ∀ at_, c.lastStopped = some (x.other, at_) → at_ + σ.deadInterval * 1000 ≤ now)

theorem deadIntervalOver_iff (last : Option (Side × Nat)) (x : Side) :
    deadIntervalOver σ now last x = true ↔
      ∀ at_, last = some (x.other, at_) → at_ + σ.deadInterval * 1000 ≤ now := by
  cases last with
  | none => simp [deadIntervalOver]
  | some stopped =>
    obtain ⟨side, at_⟩ := stopped
    by_cases same : side = x.other
    · simp only [deadIntervalOver, same, if_true, ms, Option.some.injEq, Prod.mk.injEq, true_and, forall_eq']
      exact decide_eq_true_iff
    · simp [deadIntervalOver, same]

theorem eq_other_of_ne {x y : Side} (h : y ≠ x) : y = x.other := by
  revert h
  cases x <;> cases y <;> decide

/-- A channel that drives the other side or none may start the wanted one as the dead interval permits after the switching
off. -/
theorem clear_iff {x : Side} (other : c.side ≠ some x) :
    Clear c σ now x ↔ deadIntervalOver σ now (c.switchOff now).lastStopped x = true := by
  rw [deadIntervalOver_iff]
  cases on : c.side with
  | none => simp [Clear, on, switchOff_none now on]
  | some y =>
    have isOther : y = x.other := eq_other_of_ne fun same => other (by rw [on, same])
    subst isOther
    have distinct : x.other ≠ x := by cases x <;> decide
    rw [switchOff_some now on]
    simp [Clear, on, distinct]

theorem load_same (same : c.side = sideOf c.buffer) : c.load σ now = { c with active := c.buffer } := if_pos same

theorem load_stop (none : sideOf c.buffer = none) (on : c.side ≠ .none) :
    c.load σ now = Channel.switchOff { c with active := c.buffer } now := by
  unfold Channel.load
  simp only [none]
  exact if_neg on

theorem switchOff_lastStopped (c : Channel) (now : Nat) (duty : Int) :
    (Channel.switchOff { c with active := duty } now).lastStopped = (c.switchOff now).lastStopped := by
  unfold Channel.switchOff
  cases c.side <;> rfl

theorem load_change {x : Side} (want : sideOf c.buffer = some x) (other : c.side ≠ some x) :
    c.load σ now =
      (if deadIntervalOver σ now (c.switchOff now).lastStopped x then
        { Channel.switchOff { c with active := c.buffer } now with side := some x }
       else Channel.switchOff { c with active := c.buffer } now) := by
  unfold Channel.load
  simp only [want]
  rw [← switchOff_lastStopped c now c.buffer]
  exact if_neg other

/-! ### A boundary of one channel (R150, R151, R152) -/

theorem boundary_latched (latched : c.latched = true) :
    c.boundary σ now false current = ({ c with latched := decide (c.buffer ≠ 0), active := c.buffer }, false) := by
  refine (if_neg (by decide)).trans ((if_pos latched).trans ?_)
  by_cases zero : c.buffer = 0
  · simp [zero]
  · simp [zero, latched]

theorem boundary_trips (unlatched : c.latched = false) (full : σ.overloadCount ≤ c.compared σ current) :
    c.boundary σ now false current = (c.latch now, true) :=
  (if_neg (by decide)).trans ((if_neg (by simp [unlatched])).trans (if_pos full))

theorem boundary_loads (unlatched : c.latched = false) (low : ¬ σ.overloadCount ≤ c.compared σ current) :
    c.boundary σ now false current = (Channel.load { c with overload := c.compared σ current } σ now, false) :=
  (if_neg (by decide)).trans ((if_neg (by simp [unlatched])).trans (if_neg low))

/-- Whether a channel becomes OVERLOADED at a boundary (R151). -/
def trips (c : Channel) (σ : Settings) (forced : Bool) (current : Nat) : Bool :=
  !forced && !c.latched && decide (σ.overloadCount ≤ c.compared σ current)

theorem boundary_flag (c : Channel) (σ : Settings) (now : Nat) (forced : Bool) (current : Nat) :
    (c.boundary σ now forced current).2 = trips c σ forced current := by
  cases forced with
  | true => rfl
  | false =>
    cases latched : c.latched with
    | true => rw [boundary_latched latched]; simp [trips, latched]
    | false =>
      by_cases full : σ.overloadCount ≤ c.compared σ current
      · rw [boundary_trips latched full]; simp [trips, latched, full]
      · rw [boundary_loads latched full]; simp [trips, latched, full]

/-- What loading the buffer leaves: the active duty, the latch and the count. -/
theorem load_fields (c : Channel) (σ : Settings) (now : Nat) :
    (c.load σ now).active = c.buffer ∧ (c.load σ now).latched = c.latched ∧ (c.load σ now).overload = c.overload := by
  have stopped : (Channel.switchOff { c with active := c.buffer } now).active = c.buffer ∧
      (Channel.switchOff { c with active := c.buffer } now).latched = c.latched ∧
      (Channel.switchOff { c with active := c.buffer } now).overload = c.overload := by
    unfold Channel.switchOff
    cases c.side <;> exact ⟨rfl, rfl, rfl⟩
  unfold Channel.load
  dsimp only
  split
  · exact ⟨rfl, rfl, rfl⟩
  · split
    · split
      · exact stopped
      · exact stopped
    · exact stopped

/-- The side after loading (R148, R149). -/
theorem load_side {x : Side} (want : sideOf c.buffer = some x) :
    (Clear c σ now x → (c.load σ now).side = some x) ∧ (¬ Clear c σ now x → (c.load σ now).side = none) := by
  by_cases same : c.side = some x
  · rw [load_same (same.trans want.symm)]
    exact ⟨fun _ => same, fun blocked => absurd (.inl same) blocked⟩
  · rw [load_change want same]
    refine ⟨fun free => ?_, fun blocked => ?_⟩
    · rw [if_pos ((clear_iff same).mp free)]
    · rw [if_neg (mt (clear_iff same).mpr blocked)]
      exact Invariants.switchOff_side ..

theorem load_side_none (want : sideOf c.buffer = none) : (c.load σ now).side = none := by
  by_cases same : c.side = none
  · rw [load_same (same.trans want.symm)]; exact same
  · rw [load_stop want same]; exact Invariants.switchOff_side ..

/-- Loading records a side that stops (R148), and no other. -/
theorem load_lastStopped (c : Channel) (σ : Settings) (now : Nat) :
    (∀ x, c.side = some x → (c.load σ now).side ≠ some x → (c.load σ now).lastStopped = some (x, now)) ∧
      ((c.side = none ∨ (c.load σ now).side = c.side) → (c.load σ now).lastStopped = c.lastStopped) := by
  by_cases same : c.side = sideOf c.buffer
  · rw [load_same same]
    exact ⟨fun _ on off => absurd on off, fun _ => rfl⟩
  · have changed : (c.load σ now).lastStopped = (c.switchOff now).lastStopped := by
      rw [← switchOff_lastStopped c now c.buffer]
      cases want : sideOf c.buffer with
      | none => rw [load_stop want (by rwa [want] at same)]
      | some y =>
        rw [load_change want (by rwa [want] at same)]
        split <;> rfl
    rw [changed]
    cases on : c.side with
    | none =>
      rw [switchOff_none now on]
      exact ⟨nofun, fun _ => rfl⟩
    | some x =>
      rw [switchOff_some now on]
      refine ⟨fun y isX _ => by cases isX; rfl, fun kept => ?_⟩
      have stays : (c.load σ now).side = some x := kept.resolve_left nofun
      cases want : sideOf c.buffer with
      | none => rw [load_side_none want] at stays; cases stays
      | some y =>
        obtain ⟨free, blocked⟩ := load_side (σ := σ) (now := now) want
        by_cases clear : Clear c σ now y
        · rw [free clear] at stays
          exact absurd (on.trans (stays.symm.trans want.symm)) same
        · rw [blocked clear] at stays; cases stays

/-! ### A boundary and what follows the state after it -/

/-- A channel after a period boundary, brought up to date with the duty its owner presents. -/
def after (c : Channel) (σ : Settings) (now : Nat) (forced : Bool) (current : Nat) (duty : Int) : Channel :=
  ((c.boundary σ now forced current).1).follow forced now duty

variable {duty : Int}

theorem after_forced (c : Channel) (σ : Settings) (now current : Nat) (duty : Int) :
    (after c σ now true current duty).side = none ∧ (after c σ now true current duty).latched = false ∧
      (after c σ now true current duty).active = 0 ∧ (after c σ now true current duty).buffer = 0 ∧
      (after c σ now true current duty).overload = 0 ∧
      (c.side = none → (after c σ now true current duty).lastStopped = c.lastStopped) :=
  ⟨rfl, rfl, rfl, rfl, rfl, fun _ => rfl⟩

/-- The latched channel (R151). -/
theorem after_latched (latched : c.latched = true) :
    (after c σ now false current duty).side = c.side ∧
      (after c σ now false current duty).latched = decide (c.buffer ≠ 0) ∧
      (after c σ now false current duty).overload = c.overload := by
  unfold after
  rw [boundary_latched latched]
  exact ⟨rfl, rfl, rfl⟩

theorem after_trips (trip : trips c σ false current = true) :
    (after c σ now false current duty).latched = true ∧ (after c σ now false current duty).side = none ∧
      (after c σ now false current duty).overload = 0 := by
  simp only [trips, Bool.and_eq_true, Bool.not_eq_true', decide_eq_true_eq] at trip
  obtain ⟨⟨-, unlatched⟩, full⟩ := trip
  unfold after
  rw [boundary_trips unlatched full]
  exact ⟨rfl, Invariants.switchOff_side c now, rfl⟩

/-- The channel that loads its buffer. -/
theorem after_loads (unlatched : c.latched = false) (calm : trips c σ false current = false) :
    (after c σ now false current duty) =
      (Channel.load { c with overload := c.compared σ current } σ now).follow false now duty := by
  unfold after
  rw [boundary_loads unlatched (by simpa [trips, unlatched] using calm)]

theorem after_active (c : Channel) (σ : Settings) (now current : Nat) (duty : Int) :
    (after c σ now false current duty).active = c.buffer ∧
      (∀ x, c.side = some x → (after c σ now false current duty).side ≠ some x →
        (after c σ now false current duty).lastStopped = some (x, now)) ∧
      ((c.side = none ∨ (after c σ now false current duty).side = c.side) →
        (after c σ now false current duty).lastStopped = c.lastStopped) := by
  cases latched : c.latched with
  | true =>
    unfold after
    rw [boundary_latched latched]
    exact ⟨rfl, fun _ on off => absurd on off, fun _ => rfl⟩
  | false =>
    cases trip : trips c σ false current with
    | false =>
      rw [after_loads latched trip]
      obtain ⟨active, -, -⟩ := load_fields { c with overload := c.compared σ current } σ now
      exact ⟨active, load_lastStopped { c with overload := c.compared σ current } σ now⟩
    | true =>
      have full : σ.overloadCount ≤ c.compared σ current := by simpa [trips, latched] using trip
      unfold after
      rw [boundary_trips latched full]
      cases on : c.side with
      | none =>
        unfold Channel.latch
        rw [switchOff_none now on]
        exact ⟨rfl, nofun, fun _ => rfl⟩
      | some x =>
        unfold Channel.latch
        rw [switchOff_some now on]
        exact ⟨rfl, fun y isX _ => by cases isX; rfl, fun kept => by rcases kept with h | h <;> cases h⟩

theorem sideOf_pos {d : Int} (h : 0 < d) : sideOf d = some .a := by
  unfold sideOf
  rw [if_neg (by omega), if_pos h]

theorem sideOf_neg {d : Int} (h : d < 0) : sideOf d = some .b := by
  unfold sideOf
  rw [if_neg (by omega), if_neg (by omega)]

theorem after_load_side (unlatched : c.latched = false) (calm : trips c σ false current = false) :
    (after c σ now false current duty).latched = false ∧
      (after c σ now false current duty).overload = c.compared σ current ∧
      (c.buffer = 0 → (after c σ now false current duty).side = none) ∧
      (0 < c.buffer → Clear c σ now .a → (after c σ now false current duty).side = some .a) ∧
      (0 < c.buffer → ¬ Clear c σ now .a → (after c σ now false current duty).side = none) ∧
      (c.buffer < 0 → Clear c σ now .b → (after c σ now false current duty).side = some .b) ∧
      (c.buffer < 0 → ¬ Clear c σ now .b → (after c σ now false current duty).side = none) := by
  rw [after_loads unlatched calm]
  obtain ⟨-, latched, overload⟩ := load_fields { c with overload := c.compared σ current } σ now
  have loaded {x : Side} (want : sideOf c.buffer = some x) :=
    load_side (c := { c with overload := c.compared σ current }) (σ := σ) (now := now) want
  exact ⟨latched.trans unlatched, overload,
    fun zero => load_side_none (c := { c with overload := c.compared σ current }) (by simp [sideOf, zero]),
    fun positive => (loaded (sideOf_pos positive)).1, fun positive => (loaded (sideOf_pos positive)).2,
    fun negative => (loaded (sideOf_neg negative)).1, fun negative => (loaded (sideOf_neg negative)).2⟩

/-! ### The boundary of the station -/

section Station

variable {v : State}

/-- A channel's new overload is captured (R151). -/
def told (v : State) (trip : Bool) : State := if trip then v.report .valveOverload none none else v

theorem told_keeps (v : State) (trip : Bool) :
    (told v trip).settings = v.settings ∧ (told v trip).now = v.now ∧ (told v trip).forcedOff = v.forcedOff := by
  cases trip <;> exact ⟨rfl, rfl, rfl⟩

theorem told_channels (w : State) (trip : Bool) (channels : Vector Channel 4) :
    told { w with valves.channels := channels } trip = { told w trip with valves.channels := channels } := by
  cases trip <;> rfl

/-- A channel's boundary in a station whose other channels have had theirs: a capture reads no channel. -/
theorem channelBoundary_at (w : State) (channels : Vector Channel 4) (i : Fin 4) (raw : Raw) :
    State.channelBoundary { w with valves.channels := channels } i raw =
      { told w (trips channels[i] w.settings w.forcedOff (currentOf raw)) with
        valves.channels := channels.set i (channels[i].boundary w.settings w.now w.forcedOff (currentOf raw)).1 } := by
  rw [← boundary_flag channels[i] w.settings w.now w.forcedOff (currentOf raw), ← told_channels]
  rfl

/-- Bringing the channels up to date twice is bringing them up to date once. -/
theorem refresh_channels_absorb (w : State) (channels : Vector Channel 4) :
    State.refresh { w with valves.channels := channels } =
      State.refresh
        { w with valves.channels := (State.refresh { w with valves.channels := channels }).valves.channels } := by
  have same : (State.refresh
      { w with valves.channels := (State.refresh { w with valves.channels := channels }).valves.channels }).valves.channels =
      (State.refresh { w with valves.channels := channels }).valves.channels := by
    ext1 i h
    refine (Follow.refresh_channels _ ⟨i, h⟩).trans (.trans ?_ (Follow.refresh_channels { w with valves.channels := channels } ⟨i, h⟩).symm)
    exact (congrArg (fun ch : Channel => ch.follow w.forcedOff w.now (w.ownerDuty ⟨i, h⟩))
      (Follow.refresh_channels { w with valves.channels := channels } ⟨i, h⟩)).trans (Channel.follow_follow ..)
  exact (congrArg
    (fun x => { State.refresh { w with valves.channels := channels } with valves.channels := x }) same).symm

end Station

/-- The time and the timer of a new period (R147). -/
def begun (s : State) (t : Nat) : State :=
  { s with
    now := max (max s.now t) s.valves.pwmTimer
    valves.periodStart := max (max s.now t) s.valves.pwmTimer
    valves.periodMs := s.settings.pwmPeriod
    valves.pwmTimer := max (max s.now t) s.valves.pwmTimer + s.settings.pwmPeriod * 1000 }

/-- The channels after their boundaries. -/
def loaded (s : State) (now : Nat) (cs : Fin 4 → Raw) : Vector Channel 4 :=
  Vector.ofFn fun i => (s.valves.channels[i].boundary s.settings now s.forcedOff (currentOf (cs i))).1

/-- The captures of the boundaries, channel by channel. -/
def toldAll (s w : State) (cs : Fin 4 → Raw) : State :=
  let trip (i : Fin 4) := trips s.valves.channels[i] s.settings s.forcedOff (currentOf (cs i))
  told (told (told (told w (trip 0)) (trip 1)) (trip 2)) (trip 3)

/-- One more boundary, in a station that differs from `w` in captures and channels alone, of a channel still as it was. -/
theorem channelBoundary_next {w x : State} (channels : Vector Channel 4) (i : Fin 4) (raw : Raw) {c : Channel}
    (settings : x.settings = w.settings) (now : x.now = w.now) (forced : x.forcedOff = w.forcedOff)
    (own : channels[i] = c) :
    State.channelBoundary { x with valves.channels := channels } i raw =
      { told x (trips c w.settings w.forcedOff (currentOf raw)) with
        valves.channels := channels.set i (c.boundary w.settings w.now w.forcedOff (currentOf raw)).1 } := by
  rw [channelBoundary_at, own, settings, now, forced]

/-- The four boundaries of a period, one after the other. -/
theorem boundaries_eq (s w : State) (cs : Fin 4 → Raw) (settings : w.settings = s.settings)
    (forced : w.forcedOff = s.forcedOff) (channels : w.valves.channels = s.valves.channels) :
    (((w.channelBoundary 0 (cs 0)).channelBoundary 1 (cs 1)).channelBoundary 2 (cs 2)).channelBoundary 3 (cs 3) =
      { toldAll s w cs with valves.channels := loaded s w.now cs } := by
  let trip (i : Fin 4) : Bool := trips s.valves.channels[i] s.settings s.forcedOff (currentOf (cs i))
  let new (i : Fin 4) : Channel := (s.valves.channels[i].boundary s.settings w.now s.forcedOff (currentOf (cs i))).1
  have boundary (x : State) (present : Vector Channel 4) (i : Fin 4) (keeps : x.settings = w.settings ∧ x.now = w.now ∧
      x.forcedOff = w.forcedOff) (own : present[i] = s.valves.channels[i]) :
      State.channelBoundary { x with valves.channels := present } i (cs i) =
        { told x (trip i) with valves.channels := present.set i (new i) } := by
    obtain ⟨settings', now', forced'⟩ := keeps
    rw [channelBoundary_next present i (cs i) settings' now' forced' own, settings, forced]
  have next {x : State} (keeps : x.settings = w.settings ∧ x.now = w.now ∧ x.forcedOff = w.forcedOff) (b : Bool) :
      (told x b).settings = w.settings ∧ (told x b).now = w.now ∧ (told x b).forcedOff = w.forcedOff := by
    obtain ⟨settings', now', forced'⟩ := told_keeps x b
    exact ⟨settings'.trans keeps.1, now'.trans keeps.2.1, forced'.trans keeps.2.2⟩
  have keeps0 : w.settings = w.settings ∧ w.now = w.now ∧ w.forcedOff = w.forcedOff := ⟨rfl, rfl, rfl⟩
  have first : w.channelBoundary 0 (cs 0) = _ := boundary w w.valves.channels 0 keeps0 (by rw [channels])
  rw [first, channels, boundary _ _ 1 (next keeps0 _) (by simp), boundary _ _ 2 (next (next keeps0 _) _) (by simp),
    boundary _ _ 3 (next (next (next keeps0 _) _) _) (by simp)]
  have slots : (((s.valves.channels.set 0 (new 0)).set 1 (new 1)).set 2 (new 2)).set 3 (new 3) = loaded s w.now cs := by
    ext1 i h
    interval_cases i <;> simp [loaded, new]
  exact congrArg (fun x => { toldAll s w cs with valves.channels := x }) slots

theorem toldAll_keeps (s w : State) (cs : Fin 4 → Raw) :
    (toldAll s w cs).now = w.now ∧ (toldAll s w cs).forcedOff = w.forcedOff := by
  have keeps (v : State) (b : Bool) : (told v b).now = v.now ∧ (told v b).forcedOff = v.forcedOff := (told_keeps v b).2
  unfold toldAll
  simp only [keeps, and_self]

theorem boundary_channel (s : State) (t : Nat) (cs : Fin 4 → Raw) (i : Fin 4) :
    ∃ duty, (State.refresh { toldAll s (begun s t) cs with
        valves.channels := loaded s (begun s t).now cs }).valves.channels[i] =
      after s.valves.channels[i] s.settings (begun s t).now s.forcedOff (currentOf (cs i)) duty := by
  obtain ⟨now, forced⟩ := toldAll_keeps s (begun s t) cs
  refine ⟨State.ownerDuty { toldAll s (begun s t) cs with valves.channels := loaded s (begun s t).now cs } i,
    (Follow.refresh_channels _ i).trans ?_⟩
  show Channel.follow (loaded s (begun s t).now cs)[i] (toldAll s (begun s t) cs).forcedOff (toldAll s (begun s t) cs).now _ = _
  rw [forced, now]
  exact congrArg (fun ch : Channel => ch.follow s.forcedOff (begun s t).now _) (by simp [loaded])

/-- A channel at a boundary and after it, in the words of its rules (R148 to R152). -/
theorem after_spec (c : Channel) (σ : Settings) (now : Nat) (forced : Bool) (current : Nat) (duty : Int) :
    let d := after c σ now forced current duty
    (forced = true →
        d.side = none ∧ d.latched = false ∧ d.active = 0 ∧ d.buffer = 0 ∧ d.overload = 0 ∧
        (c.side = none → d.lastStopped = c.lastStopped)) ∧
      (forced = false → d.active = c.buffer ∧
        (∀ x, c.side = some x → d.side ≠ some x → d.lastStopped = some (x, now)) ∧
        ((c.side = none ∨ d.side = c.side) → d.lastStopped = c.lastStopped)) ∧
      (forced = false → c.latched = true →
        d.side = c.side ∧ d.latched = decide (c.buffer ≠ 0) ∧ d.overload = c.overload) ∧
      (trips c σ forced current = true → d.latched = true ∧ d.side = none ∧ d.overload = 0) ∧
      (forced = false → c.latched = false → trips c σ forced current = false →
        d.latched = false ∧ d.overload = c.compared σ current ∧
        (c.buffer = 0 → d.side = none) ∧
        (0 < c.buffer → Clear c σ now .a → d.side = some .a) ∧ (0 < c.buffer → ¬ Clear c σ now .a → d.side = none) ∧
        (c.buffer < 0 → Clear c σ now .b → d.side = some .b) ∧ (c.buffer < 0 → ¬ Clear c σ now .b → d.side = none)) := by
  intro d
  cases forced with
  | true => exact ⟨fun _ => after_forced .., nofun, nofun, nofun, nofun⟩
  | false =>
    exact ⟨nofun, fun _ => after_active .., fun _ => after_latched, after_trips, fun _ => after_load_side⟩

/-- Settles O50: the four boundaries one after the other, and each channel by its own rules. -/
theorem boundariesLoadTheBuffers : Obligations.BoundariesLoadTheBuffers := by
  intro t cs0 cs1 cs2 cs3 s
  have run : exec (.pwmPeriodBoundary t cs0 cs1 cs2 cs3) s =
      .next (State.refresh { toldAll s (begun s t) (fun i => #v[cs0, cs1, cs2, cs3][i]) with
        valves.channels := loaded s (begun s t).now (fun i => #v[cs0, cs1, cs2, cs3][i]) }) :=
    congrArg State.done (boundaries_eq s (begun s t) (fun i => #v[cs0, cs1, cs2, cs3][i]) rfl rfl rfl)
  refine ⟨_, run, ?_⟩
  intro now forced mA count trips' told' begun'
  have forcedOff : s.forcedOff = forced := by
    simp only [State.forcedOff, forced]
    rw [Bool.or_comm, Bool.decide_or]
  have trip (i : Fin 4) : trips s.valves.channels[i] s.settings s.forcedOff (currentOf (#v[cs0, cs1, cs2, cs3][i])) =
      trips' i := by
    rw [forcedOff]; rfl
  have all : toldAll s (begun s t) (fun i => #v[cs0, cs1, cs2, cs3][i]) =
      told' (told' (told' (told' begun' 0) 1) 2) 3 := by
    simp only [toldAll, trip]
    rfl
  refine ⟨?_, fun i => ?_⟩
  · rw [← all]
    exact refresh_channels_absorb _ _
  · obtain ⟨duty, channel⟩ := boundary_channel s t (fun i => #v[cs0, cs1, cs2, cs3][i]) i
    have spec := after_spec s.valves.channels[i] s.settings now forced (currentOf (#v[cs0, cs1, cs2, cs3][i])) duty
    have tripped := trip i
    rw [forcedOff] at tripped channel
    rw [tripped] at spec
    intro c d interval clear
    have same : d = after s.valves.channels[i] s.settings now forced (currentOf (#v[cs0, cs1, cs2, cs3][i])) duty := channel
    rw [same]
    exact spec

end Sys2Proof.Proofs.Boundary
end

section
/-! PROOFS. The bits on the line (R18 to R20): a receiver reads what a sender writes. -/

namespace Sys2Proof.Proofs.Line

open Sys2Proof.Machine

/-! ### Numbers most significant bit first -/

theorem natOfBits_concat (bits : List Bool) (b : Bool) : natOfBits (bits ++ [b]) = 2 * natOfBits bits + b.toNat := by
  simp [natOfBits]

/-- The number the first `k` bits of a word stand for. -/
theorem natOfBits_leading {w : Nat} (x : BitVec w) {k : Nat} (h : k ≤ w) :
    natOfBits ((List.range k).map fun i => x.getMsbD i) = x.toNat / 2 ^ (w - k) := by
  induction k with
  | zero => simp [natOfBits, Nat.div_eq_of_lt x.isLt]
  | succ k ih =>
    have place : w - k = (w - (k + 1)) + 1 := by omega
    have bit : (x.getMsbD k).toNat = x.toNat / 2 ^ (w - (k + 1)) % 2 := by
      rw [← Nat.toNat_testBit]
      simp only [BitVec.getMsbD, BitVec.getLsbD, Nat.sub_sub, Nat.add_comm 1 k]
      simp [show k < w by omega]
    rw [List.range_succ, List.map_append, List.map_singleton, natOfBits_concat, ih (by omega), bit, place, Nat.pow_succ,
      ← Nat.div_div_eq_div_mul]
    omega

theorem natOfBits_word {w : Nat} (x : BitVec w) : natOfBits ((List.range w).map fun i => x.getMsbD i) = x.toNat := by
  rw [natOfBits_leading x (Nat.le_refl w), Nat.sub_self, Nat.pow_zero, Nat.div_one]

theorem byteOf_bitsOfByte (b : Byte) : byteOf (natOfBits (bitsOfByte b)) = b := by
  rw [bitsOfByte, natOfBits_word, byteOf, BitVec.ofNat_toNat, BitVec.setWidth_eq]

theorem ofNat_bitsOfHalf (h : Half) : BitVec.ofNat 16 (natOfBits (bitsOfHalf h)) = h := by
  rw [bitsOfHalf, natOfBits_word, BitVec.ofNat_toNat, BitVec.setWidth_eq]

@[simp] theorem length_bitsOfByte (b : Byte) : (bitsOfByte b).length = 8 := by simp [bitsOfByte]

@[simp] theorem length_bitsOfHalf (h : Half) : (bitsOfHalf h).length = 16 := by simp [bitsOfHalf]

/-! ### Bit stuffing (R18) -/

/-- A receiver in front of data bits as they are driven, with what follows the stuffed part behind them. -/
def ahead (last : Bool) (run : Nat) (bits tail : List Bool) : RxState := ⟨last, run, stuff last run bits ++ tail⟩

/-- The next data bit, through the stuff bit before it where one is due. -/
theorem take_bit (last : Bool) {run : Nat} (h : run ≤ 5) (d : Bool) (bits tail : List Bool) :
    ∃ run', run' ≤ 5 ∧ ∀ n ds r, RxState.take n (ahead d run' bits tail) = .ok (ds, r) →
      RxState.take (n + 1) (ahead last run (d :: bits) tail) = .ok (d :: ds, r) := by
  by_cases full : run = 5
  · refine ⟨if d = !last then 2 else 1, by split <;> omega, fun n ds r taken => ?_⟩
    unfold ahead at taken
    simp [RxState.take, RxState.unstuff, ahead, stuff, full, taken]
  · refine ⟨if d = last then run + 1 else 1, by split <;> omega, fun n ds r taken => ?_⟩
    unfold ahead at taken
    simp [RxState.take, RxState.unstuff, ahead, stuff, full, taken]

/-- Data bits are read as they were before stuffing. -/
theorem take_bits (bits more tail : List Bool) (last : Bool) {run : Nat} (h : run ≤ 5) :
    ∃ last' run', run' ≤ 5 ∧
      RxState.take bits.length (ahead last run (bits ++ more) tail) = .ok (bits, ahead last' run' more tail) := by
  induction bits generalizing last run with
  | nil => exact ⟨last, run, h, rfl⟩
  | cons d bits ih =>
    obtain ⟨run₁, bound, step⟩ := take_bit last h d (bits ++ more) tail
    obtain ⟨last', run', bound', taken⟩ := ih d bound
    exact ⟨last', run', bound', step _ _ _ taken⟩

/-- Bytes are read as they were sent. -/
theorem takeBytes_bytes (bytes : List Byte) (more tail : List Bool) (last : Bool) {run : Nat} (h : run ≤ 5) :
    ∃ last' run', run' ≤ 5 ∧
      RxState.takeBytes bytes.length (ahead last run (bytes.flatMap bitsOfByte ++ more) tail) =
        .ok (bytes, ahead last' run' more tail) := by
  induction bytes generalizing last run with
  | nil => exact ⟨last, run, h, rfl⟩
  | cons b bytes ih =>
    obtain ⟨last₁, run₁, bound, taken⟩ := take_bits (bitsOfByte b) (bytes.flatMap bitsOfByte ++ more) tail last h
    obtain ⟨last', run', bound', rest⟩ := ih last₁ bound
    refine ⟨last', run', bound', ?_⟩
    rw [length_bitsOfByte] at taken
    rw [List.flatMap_cons, List.append_assoc]
    simp [RxState.takeBytes, taken, rest, byteOf_bitsOfByte]

/-- The stuff bit that a run of five at the end leaves is removed (R18). -/
theorem unstuff_end (last : Bool) {run : Nat} (tail : List Bool) :
    ∃ last' run', (ahead last run [] tail).unstuff = .ok ⟨last', run', tail⟩ := by
  by_cases full : run = 5
  · exact ⟨!last, 1, by simp [ahead, stuff, RxState.unstuff, full]⟩
  · exact ⟨last, run, by simp [ahead, stuff, RxState.unstuff, full]⟩

/-! ### Key and length (R19) -/

theorem number_lt (cls : FrameClass) : cls.number < 32 := by cases cls <;> decide

theorem ofNumber_number (cls : FrameClass) : FrameClass.ofNumber cls.number = cls := by cases cls <;> rfl

theorem key_toNat (f : RawFrame) : f.key.toNat = 8 * f.cls.number + f.sender.val := by
  have number := number_lt f.cls
  have sender := f.sender.isLt
  rw [RawFrame.key, byteOf, BitVec.toNat_ofNat, Nat.mod_eq_of_lt (by omega)]

theorem classOfKey_key (f : RawFrame) : classOfKey f.key = f.cls := by
  have sender := f.sender.isLt
  rw [classOfKey, key_toNat, show (8 * f.cls.number + f.sender.val) / 8 = f.cls.number by omega, ofNumber_number]

theorem senderOfKey_key (f : RawFrame) : senderOfKey f.key = f.sender := by
  have sender := f.sender.isLt
  refine Fin.ext ?_
  show f.key.toNat % 8 = f.sender.val
  rw [key_toNat]
  omega

/-- No class admits more than sixteen bytes (R19). -/
theorem length_le_16 {cls : FrameClass} {n : Nat} (h : lengthOk cls n = true) : n ≤ 16 := by
  cases cls <;> simp [lengthOk] at h <;> omega

theorem lengthByte_toNat {n : Nat} (h : n ≤ 16) : (byteOf n).toNat = n := by
  rw [byteOf, BitVec.toNat_ofNat, Nat.mod_eq_of_lt (by omega)]

/-- A frame whose parts are read as they were sent, and whose length fits its class, passes every check. -/
theorem receiveBits_of_parts {f : RawFrame} {rest : List Bool} {r₁ r₂ r₃ r₄ : RxState}
    (header : RxState.takeBytes 2 ⟨false, 1, rest⟩ = .ok ([f.key, byteOf f.payload.length], r₁))
    (payload : RxState.takeBytes f.payload.length r₁ = .ok (f.payload, r₂))
    (check : r₂.take 16 = .ok (bitsOfHalf (checkWord f.head), r₃)) (ended : r₃.unstuff = .ok r₄)
    (delimiter : endDelimiterOk r₄.rest = true) (fits : lengthOk f.cls f.payload.length = true) :
    receiveBits (false :: rest) = .ok f := by
  have short := length_le_16 fits
  simp [receiveBits, header, lengthByte_toNat short, Nat.not_lt.mpr short, payload, check, ended, delimiter,
    classOfKey_key, senderOfKey_key, fits, ofNat_bitsOfHalf]

/-- Settles O22: the stuffed bits are read bit by bit, the bytes one by one, and every check of the frame passes. -/
theorem receiversReadWhatSendersWrite : Obligations.ReceiversReadWhatSendersWrite := by
  intro f fits
  obtain ⟨last₁, run₁, bound₁, header⟩ := takeBytes_bytes [f.key, byteOf f.payload.length]
    (f.payload.flatMap bitsOfByte ++ bitsOfHalf (checkWord f.head)) (List.replicate 7 true) false (by decide : 1 ≤ 5)
  obtain ⟨last₂, run₂, bound₂, payload⟩ := takeBytes_bytes f.payload (bitsOfHalf (checkWord f.head))
    (List.replicate 7 true) last₁ bound₁
  obtain ⟨last₃, run₃, -, check⟩ := take_bits (bitsOfHalf (checkWord f.head)) [] (List.replicate 7 true) last₂ bound₂
  obtain ⟨last₄, run₄, ended⟩ := unstuff_end last₃ (run := run₃) (List.replicate 7 true)
  rw [length_bitsOfHalf, List.append_nil] at check
  have bits : f.head ++ bitsOfHalf (checkWord f.head) = [f.key, byteOf f.payload.length].flatMap bitsOfByte ++
      (f.payload.flatMap bitsOfByte ++ bitsOfHalf (checkWord f.head)) := by
    simp [RawFrame.head]
  have wire : f.wire = false :: (stuff false 1 ([f.key, byteOf f.payload.length].flatMap bitsOfByte ++
      (f.payload.flatMap bitsOfByte ++ bitsOfHalf (checkWord f.head))) ++ List.replicate 7 true) := by
    rw [RawFrame.wire, bits, List.cons_append]
  rw [wire]
  exact receiveBits_of_parts header payload check ended rfl fits

end Sys2Proof.Proofs.Line
end

section
/-! PROOFS. The transmit sources and the line (R16, R20 to R23, R28 to R33): what the arbiter takes, and where a frame goes
that fails, is dropped or completes. -/

namespace Sys2Proof.Proofs.Arbiter

open Sys2Proof.Machine

/-! ### The lowest class (R29) -/

/-- The candidate of lowest class is one of the candidates, and no candidate has a lower class. -/
theorem lowestClass_spec {l : List (TxSource × TxFrame)} {c : TxSource × TxFrame} (h : lowestClass l = some c) :
    c ∈ l ∧ ∀ d ∈ l, c.2.frame.cls.number ≤ d.2.frame.cls.number := by
  induction l generalizing c with
  | nil => cases h
  | cons a l ih =>
    cases rest : lowestClass l with
    | none =>
      have empty : l = [] := by
        cases l with
        | nil => rfl
        | cons b l =>
          unfold lowestClass at rest
          split at rest
          · cases rest
          · split at rest <;> cases rest
      simp only [lowestClass, rest, Option.some.injEq] at h
      subst h empty
      simp
    | some d =>
      obtain ⟨inside, lowest⟩ := ih rest
      simp only [lowestClass, rest] at h
      split at h
      · next lower =>
        cases h
        exact ⟨List.mem_cons_of_mem _ inside, List.forall_mem_cons.mpr ⟨Nat.le_of_lt lower, lowest⟩⟩
      · next higher =>
        cases h
        exact ⟨List.mem_cons_self, List.forall_mem_cons.mpr
          ⟨Nat.le_refl _, fun e inside => Nat.le_trans (Nat.le_of_not_lt higher) (lowest e inside)⟩⟩

theorem lowestClass_eq_none {l : List (TxSource × TxFrame)} (h : lowestClass l = none) : l = [] := by
  cases l with
  | nil => rfl
  | cons a l =>
    unfold lowestClass at h
    split at h
    · cases h
    · split at h <;> cases h

theorem mem_candidates {l : Link} {src : TxSource} {f : TxFrame} : (src, f) ∈ l.candidates ↔ l.head src = some f := by
  have listed : src ∈ TxSource.all := by cases src <;> decide
  simp [Link.candidates, List.mem_filterMap, listed]

/-! ### The sources (R28, R29) -/

variable {l : Link} {src src' : TxSource} {f : TxFrame}

theorem vacate_head_same (h : l.head src = some f) : (l.vacate src).head src = if src.replaces then none else some f := by
  cases src <;> simp_all [Link.vacate, Link.head, TxSource.replaces]

theorem vacate_head_other (h : src' ≠ src) : (l.vacate src).head src' = l.head src' := by
  cases src <;> cases src' <;> simp_all [Link.vacate, Link.head]

/-- A frame taken onto the line leaves the FIFOs, the counts, the timer and the repeat mark as they are. -/
theorem vacate_keeps (l : Link) (src : TxSource) :
    (l.vacate src).handshake = l.handshake ∧ (l.vacate src).logFifo = l.logFifo ∧
      (l.vacate src).txFailures = l.txFailures ∧ (l.vacate src).checkFailures = l.checkFailures ∧
      (l.vacate src).keepAlive = l.keepAlive ∧ (l.vacate src).repeatMark = l.repeatMark := by
  cases src <;> exact ⟨rfl, rfl, rfl, rfl, rfl, rfl⟩

/-- What a source offers once a frame has returned to it (R21, R22, R29). -/
theorem putBack_head_same (l : Link) (src : TxSource) (f : TxFrame) :
    (l.putBack src f).head src = if src.replaces ∧ (l.head src).isSome then l.head src else some f := by
  have slot (x : Option TxFrame) : returned x f = if true = true ∧ x.isSome = true then x else some f := by
    cases x <;> rfl
  cases src
  case stop | motion | roller | gate | diameter | fault => exact slot _
  case handshake | log | answer | announce => rfl

theorem putBack_head_other (f : TxFrame) (h : src' ≠ src) : (l.putBack src f).head src' = l.head src' := by
  cases src <;> cases src' <;> simp_all [Link.putBack, Link.head]

theorem putBack_onLine (l : Link) (src : TxSource) (f : TxFrame) : (l.putBack src f).onLine = l.onLine := by
  cases src <;> rfl

theorem putBack_keeps (l : Link) (src : TxSource) (f : TxFrame) :
    (l.putBack src f).handshake.tail = l.handshake.tail ∧ (l.putBack src f).logFifo.tail = l.logFifo.tail ∧
      (l.putBack src f).txFailures = l.txFailures ∧ (l.putBack src f).checkFailures = l.checkFailures := by
  cases src <;> exact ⟨rfl, rfl, rfl, rfl⟩

/-- What a frame leaves that has completed or is dropped (R22, R29). -/
theorem remove_sources (l : Link) (src : TxSource) :
    (l.remove src).handshake = (if src = .handshake then l.handshake.tail else l.handshake) ∧
      (l.remove src).logFifo = (if src = .log then l.logFifo.tail else l.logFifo) ∧
      (l.remove src).answerSlot = (if src = .answer then none else l.answerSlot) ∧
      (l.remove src).announceSlot = (if src = .announce then none else l.announceSlot) := by
  cases src <;> exact ⟨rfl, rfl, rfl, rfl⟩

theorem remove_keeps (l : Link) (src : TxSource) :
    (l.remove src).onLine = l.onLine ∧ (l.remove src).repeatMark = l.repeatMark ∧
      (l.remove src).txFailures = l.txFailures ∧ (l.remove src).checkFailures = l.checkFailures ∧
      ∀ src', src'.replaces = true → (l.remove src).head src' = l.head src' := by
  refine ⟨?_, ?_, ?_, ?_, fun src' replaces => ?_⟩
  case refine_5 => cases src' <;> cases src <;> simp_all [Link.remove, Link.head, TxSource.replaces]
  all_goals cases src <;> rfl

/-! ### The offer (R18, R29) -/

theorem offer_nothing (h : ∀ src, l.head src = none) : l.offer = { l with lineIdle := true } := by
  have nothing : lowestClass l.candidates = none := by
    cases lowest : lowestClass l.candidates with
    | none => rfl
    | some c =>
      have offered := mem_candidates.mp (lowestClass_spec lowest).1
      rw [h] at offered
      cases offered
  rw [Link.offer, nothing]

/-- Where something is pending, the offer is a frame of lowest class, taken from its source. -/
theorem offer_pending (h : l.head src = some f) :
    ∃ src f, l.head src = some f ∧ (∀ src' f', l.head src' = some f' → f.frame.cls.number ≤ f'.frame.cls.number) ∧
      l.offer = { l.vacate src with onLine := some (src, f), lineIdle := false } := by
  cases lowest : lowestClass l.candidates with
  | none =>
    have inside := mem_candidates.mpr h
    rw [lowestClass_eq_none lowest] at inside
    cases inside
  | some c =>
    obtain ⟨src, f⟩ := c
    obtain ⟨inside, least⟩ := lowestClass_spec lowest
    refine ⟨src, f, mem_candidates.mp inside, fun src' f' pending => least (src', f') (mem_candidates.mpr pending), ?_⟩
    rw [Link.offer, lowest]

/-- Settles O18: by the phase and the frame on the line; the arbiter's offer is the lowest of the candidates. -/
theorem idleLineTakesTheLowestClass : Obligations.IdleLineTakesTheLowestClass := by
  intro t s
  by_cases silent : s.phase = .silent
  · have ran : exec (.lineIdle t) s = .next (State.refresh { s.clock t with link.lineIdle := true }) :=
      congrArg State.done (if_pos silent)
    exact ⟨_, ran, rfl, fun awake => absurd silent awake, fun awake => absurd silent awake, fun _ => rfl⟩
  by_cases free : s.link.onLine = none
  · have ran : exec (.lineIdle t) s = .next (State.refresh { s.clock t with link := s.link.offer }) :=
      congrArg State.done ((if_neg silent).trans (if_pos free))
    refine ⟨_, ran, rfl, fun _ _ nothing => offer_nothing nothing, fun _ _ ⟨src, f, pending⟩ => ?_,
      fun asleep => absurd asleep silent⟩
    obtain ⟨src, f, pending, least, offer⟩ := offer_pending pending
    have sources (src' : TxSource) : s.link.offer.head src' = (s.link.vacate src).head src' := by
      rw [offer]
      cases src' <;> rfl
    obtain ⟨handshake, logFifo, txFailures, checkFailures, keepAlive, repeatMark⟩ := vacate_keeps s.link src
    refine ⟨src, f, pending, congrArg Link.onLine offer, least, (sources src).trans (vacate_head_same pending),
      fun src' other => (sources src').trans (vacate_head_other other), (congrArg Link.handshake offer).trans handshake,
      (congrArg Link.logFifo offer).trans logFifo, (congrArg Link.txFailures offer).trans txFailures,
      (congrArg Link.checkFailures offer).trans checkFailures, (congrArg Link.keepAlive offer).trans keepAlive,
      (congrArg Link.repeatMark offer).trans repeatMark⟩
  · have ran : exec (.lineIdle t) s = .next (s.clock t).refresh :=
      congrArg State.done ((if_neg silent).trans (if_neg free))
    exact ⟨_, ran, rfl, fun _ idle => absurd idle free, fun _ idle => absurd idle free, fun asleep => absurd asleep silent⟩

/-! ### The frame on the line (R21 to R23) -/

section
variable {s : State} {t : Nat} {src : TxSource} {f : TxFrame}

theorem arbitrationLost_idle (h : s.link.onLine = none) : exec (.arbitrationLost t) s = .next (s.clock t).refresh := by
  have free : (s.clock t).link.onLine = none := h
  simp only [exec, execArbitrationLost, free, State.done_eq]

theorem frameDisturbed_idle (h : s.link.onLine = none) : exec (.frameDisturbed t) s = .next (s.clock t).refresh := by
  have free : (s.clock t).link.onLine = none := h
  simp only [exec, execFrameDisturbed, free, State.done_eq]

theorem transmitComplete_idle (h : s.link.onLine = none) : exec (.transmitComplete t) s = .next (s.clock t).refresh := by
  have free : (s.clock t).link.onLine = none := h
  simp only [exec, execTransmitComplete, free, State.done_eq]

theorem arbitrationLost_sending (h : s.link.onLine = some (src, f)) :
    exec (.arbitrationLost t) s =
      .next (State.refresh { s.clock t with link := { (s.clock t).link.putBack src f with onLine := none } }) := by
  have taken : (s.clock t).link.onLine = some (src, f) := h
  simp only [exec, execArbitrationLost, taken, State.done_eq]

theorem frameDisturbed_sending (h : s.link.onLine = some (src, f)) :
    exec (.frameDisturbed t) s = .next ((s.clock t).failAttempt src f).refresh := by
  have taken : (s.clock t).link.onLine = some (src, f) := h
  simp only [exec, execFrameDisturbed, taken, State.done_eq]

theorem transmitComplete_sending (h : s.link.onLine = some (src, f)) :
    exec (.transmitComplete t) s = .next ((s.clock t).completeFrame src f).refresh := by
  have taken : (s.clock t).link.onLine = some (src, f) := h
  simp only [exec, execTransmitComplete, taken, State.done_eq]

/-- The link after a disturbance has been counted. -/
def disturbed (l : Link) : Link := { l with onLine := none, txFailures := satAdd l.txFailures 1 }

theorem failAttempt_returns (h : f.attempts + 1 < 32) :
    s.failAttempt src f =
      { s with link := (disturbed s.link).putBack src { f with attempts := f.attempts + 1 } } := if_pos h

theorem failAttempt_drops (h : 32 ≤ f.attempts + 1) :
    s.failAttempt src f =
      State.dropFrame { s with link := disturbed s.link } src { f with attempts := f.attempts + 1 } :=
  if_neg (Nat.not_lt.mpr h)

/-- The ANNOUNCE slot and the repeat mark, and nothing else of the link, follow a repeated ANNOUNCE (R33). -/
theorem repeatAnnounce_eq (s : State) :
    s.repeatAnnounce =
      { s with
        link.announceSlot := if s.link.repeatMark then some s.freshAnnounce else s.link.announceSlot
        link.repeatMark := false } := by
  unfold State.repeatAnnounce
  cases marked : s.link.repeatMark
  · obtain ⟨pending, now, role, identity, phase, settings, capture, link, peers, fusion, profile, stem, feed, saw, valves, safety⟩ := s
    cases link
    cases marked
    rfl
  · rfl

/-- The station after a frame has been dropped and DEGRADE/TX FAILING captured (R22). -/
def dropped (s : State) (src : TxSource) (f : TxFrame) : State :=
  ({ s with link := s.link.remove src } : State).report .txFailing (some f.frame.cls) (some s.identity)

theorem dropFrame_announce (s : State) (f : TxFrame) :
    s.dropFrame .announce f =
      { dropped s .announce f with
        link.announceSlot := if s.link.repeatMark then some s.freshAnnounce else none
        link.repeatMark := false } := repeatAnnounce_eq (dropped s .announce f)

theorem dropFrame_other (h : src ≠ .announce) : s.dropFrame src f = dropped s src f := if_neg h

theorem completeFrame_announce (s : State) (f : TxFrame) :
    s.completeFrame .announce f =
      { s with
        link.onLine := none
        link.ownCompleted := some (f.frame.raw s.identity)
        link.keepAlive := some (s.inMs (s.settings.silenceTimeout / 2))
        link.announceSlot := if s.link.repeatMark then some s.freshAnnounce else none
        link.repeatMark := false } :=
  repeatAnnounce_eq
    { s with
      link := { s.link.remove .announce with
        onLine := none
        ownCompleted := some (f.frame.raw s.identity)
        keepAlive := some (s.inMs (s.settings.silenceTimeout / 2)) } }

theorem completeFrame_other (h : src ≠ .announce) :
    s.completeFrame src f =
      { s with
        link := { s.link.remove src with
          onLine := none
          ownCompleted := some (f.frame.raw s.identity)
          keepAlive := some (s.inMs (s.settings.silenceTimeout / 2)) } } := if_neg h

/-- What the sources offer does not follow the frame on the line. -/
theorem head_free (l : Link) (src : TxSource) : { l with onLine := none }.head src = l.head src := by cases src <;> rfl

theorem head_disturbed (l : Link) (src : TxSource) : (disturbed l).head src = l.head src := by cases src <;> rfl

end

/-- Settles O19: an idle line changes nothing; a frame returns by `putBack` or, at its last attempt, leaves by `remove`. -/
theorem failedFramesReturnOrAreDropped : Obligations.FailedFramesReturnOrAreDropped := by
  refine ⟨fun t s => ⟨fun free => ⟨arbitrationLost_idle free, frameDisturbed_idle free⟩, fun src f sending => ?_⟩,
    fun t s src f sending last awake => ?_⟩
  · intro back
    refine ⟨?_, fun more => ?_⟩
    · obtain ⟨handshake, logFifo, txFailures, checkFailures⟩ := putBack_keeps s.link src f
      exact ⟨_, arbitrationLost_sending sending, rfl, rfl, (head_free _ src).trans (putBack_head_same s.link src f),
        fun src' other => (head_free _ src').trans (putBack_head_other f other), handshake, logFifo, txFailures,
        checkFailures⟩
    · have same := putBack_head_same (disturbed s.link) src { f with attempts := f.attempts + 1 }
      rw [head_disturbed] at same
      obtain ⟨handshake, logFifo, txFailures, checkFailures⟩ :=
        putBack_keeps (disturbed s.link) src { f with attempts := f.attempts + 1 }
      refine ⟨_, (frameDisturbed_sending sending).trans (congrArg State.done (failAttempt_returns more)), rfl,
        putBack_onLine _ _ _, same, fun src' other => ?_, handshake, logFifo, txFailures, checkFailures⟩
      exact (putBack_head_other _ other).trans (head_disturbed _ src')
  · have ran := (frameDisturbed_sending (t := t) sending).trans
      (congrArg State.done (failAttempt_drops last))
    by_cases announce : src = .announce
    · subst announce
      exact ⟨_, ran.trans (congrArg State.done (dropFrame_announce _ _)), rfl, rfl, rfl, rfl, nofun,
        fun _ => ⟨rfl, rfl⟩, rfl, rfl⟩
    · obtain ⟨handshake, logFifo, answerSlot, -⟩ := remove_sources (disturbed s.link) src
      obtain ⟨onLine, -, txFailures, -, -⟩ := remove_keeps (disturbed s.link) src
      exact ⟨_, ran.trans (congrArg State.done (dropFrame_other announce)), onLine, txFailures, handshake,
        logFifo, fun answer => answerSlot.trans (if_pos answer), fun own => absurd own announce, rfl, rfl⟩

/-- Settles O20: a completed frame leaves its source by `remove`. -/
theorem completedFramesLeaveTheirSource : Obligations.CompletedFramesLeaveTheirSource := by
  refine fun t s => ⟨transmitComplete_idle, fun src f sending => ?_⟩
  have ran := transmitComplete_sending (t := t) sending
  by_cases announce : src = .announce
  · subst announce
    refine ⟨_, ran.trans (congrArg State.done (completeFrame_announce _ _)), rfl, rfl, rfl, rfl, rfl, rfl, rfl,
      rfl, rfl, fun src' replaces => ?_, rfl, rfl⟩
    cases src' <;> simp_all [TxSource.replaces, Link.head]
  · obtain ⟨handshake, logFifo, answerSlot, announceSlot⟩ := remove_sources s.link src
    obtain ⟨onLine, repeatMark, txFailures, checkFailures, heads⟩ := remove_keeps s.link src
    refine ⟨_, ran.trans (congrArg State.done (completeFrame_other announce)), rfl, rfl, rfl, rfl, handshake,
      logFifo, answerSlot, announceSlot.trans ?_, repeatMark.trans (if_neg announce).symm, fun src' replaces => ?_, txFailures,
      checkFailures⟩
    · rw [if_neg announce, if_neg announce]
    · refine Eq.trans ?_ (heads src' replaces)
      cases src' <;> rfl

/-! ### Checks and keep-alive (R20, R31 to R33) -/

section
variable {s : State} {t due : Nat}

theorem keepAliveExpiry_running (h : s.link.keepAlive = some due) :
    exec (.keepAliveExpiry t) s = .next ((s.clockDue t due).callAnnounce.startKeepAlive).refresh := by
  simp only [exec, execKeepAliveExpiry, h, State.done_eq]

theorem callAnnounce_empty (awake : s.phase ≠ .silent) (empty : s.link.announceSlot = none) :
    s.callAnnounce = { s with link.announceSlot := some s.freshAnnounce } := by
  simp only [State.callAnnounce, if_neg awake, empty]

theorem callAnnounce_absorbed {r : Role} {m : StemState} {n : Nat} (awake : s.phase ≠ .silent)
    (unsent : s.link.announceSlot = some ⟨.announce r s.phase m, n⟩) : s.callAnnounce = s := by
  simp only [State.callAnnounce, if_neg awake, unsent, if_pos]

theorem callAnnounce_remembered {r : Role} {ph : Phase} {m : StemState} {n : Nat} (awake : s.phase ≠ .silent)
    (unsent : s.link.announceSlot = some ⟨.announce r ph m, n⟩) (other : ph ≠ s.phase) :
    s.callAnnounce = { s with link.repeatMark := true } := by
  simp only [State.callAnnounce, if_neg awake, unsent, if_neg other]

end

/-- Settles O21: the check failure is one capture; the keep-alive timer calls for an ANNOUNCE by what the slot holds. -/
theorem failedChecksAndTheKeepAliveTimer : Obligations.FailedChecksAndTheKeepAliveTimer := by
  refine ⟨fun t why s => rfl, fun t due s running awake => ?_⟩
  intro now timer
  have ran := keepAliveExpiry_running (t := t) running
  refine ⟨fun empty => ?_, fun r m n unsent => ?_, fun r ph m n unsent other => ?_⟩
  · exact ran.trans (congrArg (fun v => v.startKeepAlive.done)
      (callAnnounce_empty (s := s.clockDue t due) awake empty))
  · exact ran.trans (congrArg (fun v => v.startKeepAlive.done)
      (callAnnounce_absorbed (s := s.clockDue t due) awake unsent))
  · exact ran.trans (congrArg (fun v => v.startKeepAlive.done)
      (callAnnounce_remembered (s := s.clockDue t due) awake unsent other))

end Sys2Proof.Proofs.Arbiter
end

section
/-! PROOFS. A frame that is heard (R24 to R26, R36, R172): the owning block acts on the state that has recorded it. The rules
whose effect is one clause of the block's own handling follow here. -/

namespace Sys2Proof.Proofs.Heard

open Sys2Proof.Machine Sys2Proof.Proofs.Effects Sys2Proof.Proofs.Observed

section
variable {c : Instr} {f : RawFrame} {s : State} {g : State → State}

/-- A heard frame runs its block's handling on the state that has recorded it. -/
theorem exec_of_hears (frame : observedFrame c = some f)
    (observes : ∀ v, exec c v = (v.observeFor (Instr.time c) f (some g)).done) (hears : s.hears c) :
    exec c s = (g (s.heard c)).done := by
  unfold State.hears at hears
  unfold State.heard
  rw [frame] at hears ⊢
  obtain ⟨awake, own, role⟩ := hears
  rw [observes, s.observeFor_hears _ f g awake own ((State.record_roleFilter ..).trans role)]

theorem heard_eq (frame : observedFrame c = some f) : s.heard c = s.record (Instr.time c) f := by
  unfold State.heard
  rw [frame]

/-- A frame taken in OPERATING alone. -/
theorem exec_of_hearsWorking (frame : observedFrame c = some f)
    (observes : ∀ v, exec c v = (v.observeFor (Instr.time c) f (some fun v => v.inOperating g)).done)
    (hears : s.hearsWorking c) : exec c s = (g (s.heard c)).done := by
  obtain ⟨operating, hears⟩ := hears
  have phase : (s.heard c).phase = .operating := by
    rw [heard_eq frame]
    exact operating
  exact (exec_of_hears frame observes hears).trans (congrArg State.done (if_pos phase))

/-- A frame taken in OPERATING alone, in START. -/
theorem exec_of_hears_start (frame : observedFrame c = some f)
    (observes : ∀ v, exec c v = (v.observeFor (Instr.time c) f (some fun v => v.inOperating g)).done)
    (hears : s.hears c) (start : s.phase = .start) : exec c s = (s.heard c).done := by
  have phase : (s.heard c).phase = .start := by
    rw [heard_eq frame]
    exact start
  exact (exec_of_hears frame observes hears).trans (congrArg State.done (inOperating_start g phase))

/-- A frame of the open stem. -/
theorem exec_of_hearsInStem {serial : Half} (frame : observedFrame c = some f)
    (observes : ∀ v, exec c v = (v.observeFor (Instr.time c) f (some fun v => v.inStem serial g)).done)
    (hears : s.hearsInStem c serial) : exec c s = (g (s.heard c)).done := by
  obtain ⟨⟨operating, hears⟩, opened, same⟩ := hears
  have heard : (s.heard c).phase = .operating ∧ (s.heard c).serialFilter serial = true := by
    rw [heard_eq frame]
    exact ⟨operating, by simp [State.serialFilter, opened, same]⟩
  exact (exec_of_hears frame observes hears).trans (congrArg State.done (if_pos heard))

end

/-! ### The stop line and STOP NOTICE (R158, R161) -/

/-- Settles O35: the stop line by its level and the phase, STOP NOTICE by its sender. -/
theorem stopsAreCaptured : Obligations.StopsAreCaptured := by
  intro t s
  refine ⟨fun inactive operating => ?_, fun inactive other => ?_, fun asserted => ?_, rfl, fun i kind serial => ?_⟩
  · have inactive : ¬ ((s.clock t).safety.stopAsserted = true) := by simp [inactive]
    exact congrArg State.done ((if_neg inactive).trans (if_pos operating))
  · have inactive : ¬ ((s.clock t).safety.stopAsserted = true) := by simp [inactive]
    exact congrArg State.done ((if_neg inactive).trans (if_neg other))
  · exact congrArg State.done (if_pos asserted)
  · intro c hears low high
    have coded : stopKindOk kind = true := by simp [stopKindOk, low, high]
    refine exec_of_hears
      (g := fun v => if i = v.identity then v else v.captureStop .remoteStop (some .stopNotice) (some i) false) rfl
      (fun v => ?_) hears
    exact congrArg (fun body => (v.observeFor t ⟨.stopNotice, i, [kind] ++ le16 serial⟩ body).done) (if_pos coded)

/-! ### The calibration table (R58, R59) -/

theorem clampInt_eq {lo hi : Int} (v : Int) (h : lo ≤ hi) : clampInt lo hi v = max lo (min hi v) := by
  unfold clampInt
  split
  · omega
  · split <;> omega

section
variable {s : State} {i : Ident} {entry : Byte} {w : CalEntry → Option CalEntry}

theorem writeStaged_some {e : Fin 8} {x : CalEntry} (same : entry.toNat = e.val) (written : w s.fusion.staged[e] = some x) :
    s.writeStaged i entry w = { s with fusion.staged := s.fusion.staged.set e x } := by
  obtain ⟨n, small⟩ := e
  change entry.toNat = n at same
  subst same
  unfold State.writeStaged
  rw [dif_pos small]
  change w s.fusion.staged[entry.toNat] = some x at written
  rw [written]

theorem writeStaged_none (refused : ∀ h : entry.toNat < 8, w s.fusion.staged[entry.toNat] = none) :
    s.writeStaged i entry w = s.report .settingRefused (some .cal) (some i) := by
  unfold State.writeStaged
  split
  · next small => rw [refused small]
  · rfl

end

/-- What CAL KEY makes of a staged entry (R59). -/
def keyed (value : Half) (e : CalEntry) : Option CalEntry :=
  if 0 ≤ signed16 value ∧ signed16 value ≤ 15 then some { e with key := (signed16 value).toNat, enabled := true } else none

/-- What CAL VALUE makes of a staged entry (R58). -/
def valued (value : Half) (e : CalEntry) : Option CalEntry := some { e with value := clampInt (-500) 500 (signed16 value) }

/-- Settles O31: by the entry, which is one of the table or none, and the key. -/
theorem calWritesTheStagedCopy : Obligations.CalWritesTheStagedCopy := by
  intro t i entry value s cv ck
  have valueRan (hears : s.hears cv) : exec cv s = ((s.heard cv).writeStaged i entry (valued value)).done :=
    exec_of_hears (g := fun v => v.writeStaged i entry (valued value)) rfl (fun _ => rfl) hears
  have keyRan (hears : s.hears ck) : exec ck s = ((s.heard ck).writeStaged i entry (keyed value)).done :=
    exec_of_hears (g := fun v => v.writeStaged i entry (keyed value)) rfl (fun _ => rfl) hears
  refine ⟨fun e hears same => ?_, fun e hears same low high => ?_, fun hears above => ?_, fun hears refused => ?_⟩
  · refine (valueRan hears).trans (congrArg State.done (writeStaged_some same ?_))
    rw [← clampInt_eq _ (by decide)]
    rfl
  · exact (keyRan hears).trans (congrArg State.done (writeStaged_some same (if_pos ⟨low, high⟩)))
  · refine (valueRan hears).trans (congrArg State.done (writeStaged_none fun small => ?_))
    omega
  · refine (keyRan hears).trans (congrArg State.done (writeStaged_none fun small => if_neg fun ⟨low, high⟩ => ?_))
    rcases refused with above | below | beyond
    · omega
    · exact absurd low (Int.not_le.mpr below)
    · exact absurd high (Int.not_le.mpr beyond)

/-! ### The coded frames of the handshake and the feed -/

section
variable {t : Nat} {i : Ident} {serial : Half} {kind index : Byte} {k : CutKind} {x : OrderIndex} {s : State}

theorem exec_feedMode {mode : Byte} {m : FeedMode} (hears : s.hearsWorking (.feedMode t i mode))
    (coded : FeedMode.ofCode mode = some m) :
    exec (.feedMode t i mode) s = ((s.heard (.feedMode t i mode)).setFeedMode i m).done := by
  refine exec_of_hearsWorking (g := fun v => v.setFeedMode i m) rfl (fun v => ?_) hears
  simp only [exec, execFeedMode, coded, Option.map_some, Instr.time]

theorem exec_holdRequest (hears : s.hearsInStem (.holdRequest t i serial kind index) serial)
    (hk : CutKind.ofCode kind = some k) (hx : OrderIndex.ofCode index = some x) :
    exec (.holdRequest t i serial kind index) s =
      (State.yield_ { s.heard (.holdRequest t i serial kind index) with stem.view := some ⟨k, x, .requested⟩ } k x).done := by
  refine exec_of_hearsInStem (g := fun v => State.yield_ { v with stem.view := some ⟨k, x, .requested⟩ } k x) rfl
    (fun v => ?_) hears
  simp only [exec, execHoldRequest, hk, hx, Instr.time]

theorem exec_cutStart {attempt : Byte} (hears : s.hearsInStem (.cutStart t i serial kind index attempt) serial)
    (hk : CutKind.ofCode kind = some k) (hx : OrderIndex.ofCode index = some x) :
    exec (.cutStart t i serial kind index attempt) s =
      (State.done
        { s.heard (.cutStart t i serial kind index attempt) with
          stem := (s.heard (.cutStart t i serial kind index attempt)).stem.progressTo k x .started }) := by
  refine exec_of_hearsInStem (g := fun v => { v with stem := v.stem.progressTo k x .started }) rfl (fun v => ?_) hears
  simp only [exec, execCutStart, hk, hx, Instr.time]

theorem exec_holdGrant (hears : s.hearsInStem (.holdGrant t i serial kind index) serial)
    (hk : CutKind.ofCode kind = some k) (hx : OrderIndex.ofCode index = some x) :
    exec (.holdGrant t i serial kind index) s =
      (((s.heard (.holdGrant t i serial kind index)).stemGrant k x).sawGrant i serial k x).done := by
  refine exec_of_hearsInStem (g := fun v => (v.stemGrant k x).sawGrant i serial k x) rfl (fun v => ?_) hears
  simp only [exec, execHoldGrant, hk, hx, Instr.time]

theorem exec_holdRelease {outcome : Byte} {o : HoldOutcome}
    (hears : s.hearsInStem (.holdRelease t i serial kind index outcome) serial) (hk : CutKind.ofCode kind = some k)
    (hx : OrderIndex.ofCode index = some x) (ho : HoldOutcome.ofCode outcome = some o) :
    exec (.holdRelease t i serial kind index outcome) s =
      (State.stemRelease
        { s.heard (.holdRelease t i serial kind index outcome) with feed := s.feed.released o } k x o).done := by
  refine exec_of_hearsInStem (g := fun v => State.stemRelease { v with feed := v.feed.released o } k x o) rfl
    (fun v => ?_) hears
  simp only [exec, execHoldRelease, hk, hx, ho, Instr.time]

theorem exec_cutDone {pAtCut : Word} (hears : s.hearsInStem (.cutDone t i serial kind index pAtCut) serial)
    (hk : CutKind.ofCode kind = some k) (hx : OrderIndex.ofCode index = some x) :
    exec (.cutDone t i serial kind index pAtCut) s =
      ((s.heard (.cutDone t i serial kind index pAtCut)).takeCutDone i k x).done := by
  refine exec_of_hearsInStem (g := fun v => v.takeCutDone i k x) rfl (fun v => ?_) hears
  simp only [exec, execCutDone, hk, hx, Instr.time]

theorem exec_halted {p : Word} {offsize : Byte} {f : Bool} (hears : s.hearsInStem (.halted t i serial index p offsize) serial)
    (hx : OrderIndex.ofCode index = some x) (hf : flagOfCode offsize = some f) :
    exec (.halted t i serial index p offsize) s =
      (((s.heard (.halted t i serial index p offsize)).sawHalted x p.toInt f).stemHalted x).done := by
  refine exec_of_hearsInStem (g := fun v => (v.sawHalted x p.toInt f).stemHalted x) rfl (fun v => ?_) hears
  simp only [exec, execHalted, hx, hf, Instr.time, signed32]

theorem exec_orderReject {reason : Byte} (hears : s.hearsInStem (.orderReject t i serial index reason) serial)
    (hx : OrderIndex.ofCode index = some x) (hr : reason.toNat ≤ 1) :
    exec (.orderReject t i serial index reason) s =
      ((s.heard (.orderReject t i serial index reason)).rejectOrder x).done := by
  have coded : ∃ r, RejectReason.ofCode reason = some r := by
    rcases (show reason.toNat = 0 ∨ reason.toNat = 1 by omega) with code | code <;> simp [RejectReason.ofCode, code]
  obtain ⟨r, coded⟩ := coded
  refine exec_of_hearsInStem (g := fun v => v.rejectOrder x) rfl (fun v => ?_) hears
  simp only [exec, execOrderReject, hx, coded, Instr.time]

theorem exec_cutCommand (hears : s.hearsInStem (.cutCommand t i serial kind) serial) (hk : CutKind.ofCode kind = some k) :
    exec (.cutCommand t i serial kind) s = ((s.heard (.cutCommand t i serial kind)).commandCut i k).done := by
  refine exec_of_hearsInStem (g := fun v => v.commandCut i k) rfl (fun v => ?_) hears
  simp only [exec, execCutCommand, hk, Option.map_some, Instr.time]

end

/-! ### FEED DEMAND and FEED MODE (R111, R113) -/

/-- What a FEED DEMAND taken in OPERATING does (R113). -/
def demanded (duty : Half) (v : State) : State :=
  if v.role = .feed ∧ v.safety.output = .run then
    { v with
      feed.demand := clampInt (-1000) 1000 (signed16 duty)
      feed.expiry := some (v.inMs v.settings.manualExpiry) }
  else v

theorem ofCode_manual {mode : Byte} (h : mode.toNat = 0) : FeedMode.ofCode mode = some .manual := by
  simp [FeedMode.ofCode, h]

theorem ofCode_auto {mode : Byte} (h : mode.toNat = 1) : FeedMode.ofCode mode = some .auto := by
  simp [FeedMode.ofCode, h]

section
variable {v : State} {i : Ident}

theorem setFeedMode_manual (feed : v.role = .feed) : v.setFeedMode i .manual = { v with feed := v.feed.toManual } := by
  unfold State.setFeedMode
  rw [if_neg (not_not.mpr feed)]

theorem setFeedMode_auto_kept (feed : v.role = .feed) (auto : v.feed.mode = .auto) : v.setFeedMode i .auto = v := by
  unfold State.setFeedMode
  rw [if_neg (not_not.mpr feed), auto]

theorem setFeedMode_auto (feed : v.role = .feed) (manual : v.feed.mode = .manual) :
    v.setFeedMode i .auto =
      if v.fusion.zeroed = true ∧ (v.stem.state = .running ∨ v.stem.state = .atMark) ∧ v.safety.output = .run then
        { v with feed := v.feed.toAuto }
      else v.report .commandRefused (some .feedMode) (some i) := by
  unfold State.setFeedMode
  rw [if_neg (not_not.mpr feed), manual]

end

/-- Settles O45: a demand by the role and the output state, a mode by the mode that stands. -/
theorem feedCommandsSetDemandAndMode : Obligations.FeedCommandsSetDemandAndMode := by
  refine ⟨fun t i duty s => ?_, fun t i mode s => ?_⟩
  · intro c
    refine ⟨fun hears feed run => ?_, fun hears ignored => ?_⟩
    · refine (exec_of_hearsWorking (g := demanded duty) rfl (fun _ => rfl) hears).trans (congrArg State.done ?_)
      refine (if_pos (show (s.heard c).role = .feed ∧ (s.heard c).safety.output = .run from ⟨feed, run⟩)).trans ?_
      rw [clampInt_eq _ (by decide)]
      rfl
    · by_cases start : s.phase = .start
      · exact exec_of_hears_start (g := demanded duty) rfl (fun _ => rfl) hears start
      · have operating : s.phase = .operating := by
          cases phase : s.phase with
          | start => exact absurd phase start
          | operating => rfl
          | silent => exact absurd phase hears.1
        refine (exec_of_hearsWorking (g := demanded duty) rfl (fun _ => rfl) ⟨operating, hears⟩).trans
          (congrArg State.done (if_neg ?_))
        rintro ⟨feed, run⟩
        rcases ignored with other | stopped | start'
        · exact other feed
        · exact absurd (run.symm.trans stopped) (by decide)
        · exact start start'
  · intro c hears feed ready
    refine ⟨fun code auto => ?_, fun code manual => ?_, fun code auto => ?_, fun code manual isReady => ?_,
      fun code manual notReady => ?_⟩
    · refine (exec_feedMode hears (ofCode_manual code)).trans (congrArg State.done ?_)
      exact (setFeedMode_manual (v := s.heard c) feed).trans
        (congrArg (fun f => { s.heard c with feed := f }) (toManual_of_auto auto))
    · refine (exec_feedMode hears (ofCode_manual code)).trans (congrArg State.done ?_)
      exact (setFeedMode_manual (v := s.heard c) feed).trans
        (congrArg (fun f => { s.heard c with feed := f }) (toManual_of_manual manual))
    · exact (exec_feedMode hears (ofCode_auto code)).trans (congrArg State.done (setFeedMode_auto_kept feed auto))
    · exact (exec_feedMode hears (ofCode_auto code)).trans (congrArg State.done
        ((setFeedMode_auto (v := s.heard c) feed manual).trans (if_pos isReady)))
    · exact (exec_feedMode hears (ofCode_auto code)).trans (congrArg State.done
        ((setFeedMode_auto (v := s.heard c) feed manual).trans (if_neg notReady)))

end Sys2Proof.Proofs.Heard
end

section
/-! PROOFS. The handshake and the Saw Sequencer (R94 to R96, R121, R122, R127 to R138): requests, grants, halts and commands,
and the timers of the handshake states. -/

namespace Sys2Proof.Proofs.Handshake

open Sys2Proof.Machine Sys2Proof.Proofs.Heard Sys2Proof.Proofs.Effects

/-! ### Requests and cut starts (R94, R121, R122) -/

section
variable {v : State} {k : CutKind} {x : OrderIndex}

theorem yield_ignored (h : ¬ (v.role = .feed ∧ v.feed.hold = .free ∧ v.safety.output = .run)) : v.yield_ k x = v := if_neg h

theorem yield_moving (h : v.role = .feed ∧ v.feed.hold = .free ∧ v.safety.output = .run) (moving : v.feed.stoppedCount ≠ 2) :
    v.yield_ k x = { v with feed.hold := .yielding, feed.holdRecord := some ⟨k, x⟩ } := (if_pos h).trans (if_neg moving)

theorem yield_stopped (h : v.role = .feed ∧ v.feed.hold = .free ∧ v.safety.output = .run) (still : v.feed.stoppedCount = 2) :
    v.yield_ k x =
      State.placeHandshake { v with feed.hold := .held, feed.holdRecord := some ⟨k, x⟩ } (.holdGrant v.stem.serial k x) :=
  (if_pos h).trans (if_pos still)

end

/-- Settles O38: a request by whether the station yields and is stopped, a cut start by the view. -/
theorem requestsAndCutStartsMarkTheView : Obligations.RequestsAndCutStartsMarkTheView := by
  refine ⟨fun t i serial kind index k x s => ?_, fun t i serial kind index attempt k x s => ?_⟩
  · intro c hears hk hx b yields
    have ran : exec c s = (b.yield_ k x).done := exec_holdRequest hears hk hx
    exact ⟨fun taken moving => ran.trans (congrArg State.done (yield_moving taken moving)),
      fun taken still => ran.trans (congrArg State.done (yield_stopped taken still)),
      fun ignored => ran.trans (congrArg State.done (yield_ignored ignored))⟩
  · intro c hears hk hx
    have ran : exec c s = State.done { s.heard c with stem := s.stem.progressTo k x .started } :=
      exec_cutStart hears hk hx
    refine ⟨fun v present => ran.trans (congrArg State.done ?_), fun absent => ran.trans (congrArg State.done ?_)⟩
    · simp only [StemUnit.progressTo, present]
      rfl
    · simp only [StemUnit.progressTo, absent]
      rfl

/-! ### The timers of the handshake states (R128, R129, R134 to R141) -/

theorem sawEnter_eq (s : State) (st : SawState) :
    s.sawEnter st =
      { s with
        saw.state := st
        saw.grantTimer := if st = .requested then some (s.now + s.settings.grantTimeout * 1000) else none
        saw.chainTimer := if st = .spin then some (s.now + s.settings.chainTimeout * 1000) else none
        saw.cutTimer := if st = .down then some (s.now + s.settings.cutTimeout * 1000) else none
        saw.returnTimer := if st = .ret then some (s.now + s.settings.returnTimeout * 1000) else none } := by
  cases st <;> simp [State.sawEnter, Saw.enter, sawTimeout, State.inMs, ms]

section
variable {t due : Nat} {s : State}

theorem grantTimerExpiry_running {r : SawRecord} (running : s.saw.grantTimer = some due) (record : s.saw.record = some r) :
    exec (.grantTimerExpiry t) s = ((s.clockDue t due).endHandshake r .abandoned).done := by
  simp only [exec, execGrantTimerExpiry, running, record]

theorem chainTimerExpiry_running (running : s.saw.chainTimer = some due) :
    exec (.chainTimerExpiry t) s = ((s.clockDue t due).sawEnter .ret).done := by
  simp only [exec, execChainTimerExpiry, running]

theorem cutTimerExpiry_running (running : s.saw.cutTimer = some due) :
    exec (.cutTimerExpiry t) s = ((s.clockDue t due).sawEnter .ret).done := by
  simp only [exec, execCutTimerExpiry, running]

theorem returnTimerExpiry_running (running : s.saw.returnTimer = some due) :
    exec (.returnTimerExpiry t) s = ((s.clockDue t due).captureStop .barNotHome none none true).done := by
  simp only [exec, execReturnTimerExpiry, running]

end

/-- Settles O44: a handshake state's timer by `sawEnter_eq`, each expiry by the timer that runs. -/
theorem sawTimersEndTheirState : Obligations.SawTimersEndTheirState :=
  ⟨fun s st => sawEnter_eq s st, fun _ _ _ => ⟨fun _ => grantTimerExpiry_running, chainTimerExpiry_running,
    cutTimerExpiry_running, returnTimerExpiry_running⟩⟩

/-! ### Halts and cut commands (R96, R130, R131) -/

section
variable {v w : State} {x : OrderIndex} {p : Int} {f : Bool} {k : CutKind} {i : Ident}

/-- HALTED enters AT MARK by the stem unit alone. -/
theorem stemHalted_of_stem (same : w.stem = v.stem) :
    w.stemHalted x = if v.stem.state = .running ∧ x.isSome ∧ x = v.activeIndex then w.enterStem .atMark else w := by
  refine if_congr ?_ rfl rfl
  unfold State.activeIndex
  rw [same]

theorem sawHalted_ignored (h : v.role ≠ .saw ∨ v.saw.state ≠ .idle ∨ v.safety.output = .stopped ∨
    ¬ ∃ j o, x = some j ∧ v.activeIndex = some j ∧ v.stem.orders[j] = some o) : v.sawHalted x p f = v := by
  unfold State.sawHalted
  split
  · next ready =>
    obtain ⟨saw, idle, run, named, same⟩ := ready
    have noOrder : ¬ ∃ j o, x = some j ∧ v.activeIndex = some j ∧ v.stem.orders[j] = some o := by
      rcases h with other | busy | stopped | noOrder
      · exact absurd saw other
      · exact absurd idle busy
      · exact absurd (run.symm.trans stopped) (by decide)
      · exact noOrder
    cases active : v.activeOrder with
    | none => rfl
    | some o =>
      obtain ⟨j, named⟩ := Option.isSome_iff_exists.mp named
      have index : v.activeIndex = some j := same.symm.trans named
      unfold State.activeOrder at active
      rw [index] at active
      exact absurd ⟨j, o, named, index, active⟩ noOrder
  · rfl

theorem sawHalted_active {j : Fin 12} {o : Order} (saw : v.role = .saw) (idle : v.saw.state = .idle)
    (run : v.safety.output = .run) (named : x = some j) (index : v.activeIndex = some j) (held : v.stem.orders[j] = some o) :
    v.sawHalted x p f =
      if v.profile.fused < o.minTop then v.placeHandshake (.orderReject v.stem.serial x .tooThin)
      else v.startHandshake ⟨.order, x, 1, some p, f, false, false⟩ := by
  have active : v.activeOrder = some o := by
    unfold State.activeOrder
    rw [index]
    exact held
  unfold State.sawHalted
  rw [if_pos ⟨saw, idle, run, named ▸ rfl, named.trans index.symm⟩, active]

theorem startHandshake_stem (r : SawRecord) : (v.startHandshake r).stem = v.stem := by
  rw [startHandshake_eq]
  exact State.placeHandshake_stem ..

theorem cutFits_iff (k : CutKind) (m : StemState) :
    cutFits k m = true ↔ (k = .fell ∧ m = .gripped) ∨ (k = .trim ∧ (m = .running ∨ m = .atMark ∨ m = .topped)) := by
  cases k <;> cases m <;> decide

theorem commandCut_other (other : v.role ≠ .saw) : v.commandCut i k = v := if_pos other

theorem commandCut_saw (saw : v.role = .saw) :
    v.commandCut i k =
      if v.saw.state = .idle ∧ v.safety.output = .run ∧ cutFits k v.stem.state = true then
        v.startHandshake ⟨k, none, 1, none, false, false, false⟩
      else v.report .commandRefused (some .cutCommand) (some i) := if_neg (not_not.mpr saw)

end

/-- Settles O42: a halt by what the sequencer makes of it, the stem unit following; a command by whether it fits. -/
theorem handshakesStartOnAHaltOrACommand : Obligations.HandshakesStartOnAHaltOrACommand := by
  refine ⟨fun t i serial index p offsize x f s => ?_, fun t i serial kind k s => ?_⟩
  · intro c hears hx hf active atMark
    have ran : exec c s = (((s.heard c).sawHalted x p.toInt f).stemHalted x).done := exec_halted hears hx hf
    refine ⟨fun ignored => ?_, fun j o saw idle run named index held => ⟨fun thin => ?_, fun thick => ?_⟩⟩
    · exact ran.trans (congrArg (fun v => (v.stemHalted x).done) (sawHalted_ignored (v := s.heard c) ignored))
    · refine ran.trans (congrArg State.done ?_)
      rw [sawHalted_active (v := s.heard c) saw idle run named index held, if_pos (show (s.heard c).profile.fused < _ from thin)]
      exact stemHalted_of_stem (v := s) (State.placeHandshake_stem ..)
    · refine ran.trans (congrArg State.done ?_)
      rw [sawHalted_active (v := s.heard c) saw idle run named index held,
        if_neg (show ¬ (s.heard c).profile.fused < _ from Nat.not_lt.mpr thick)]
      exact stemHalted_of_stem (v := s) (startHandshake_stem ..)
  · intro c hears hk fits
    have ran : exec c s = ((s.heard c).commandCut i k).done := exec_cutCommand hears hk
    have fitting : fits ↔ s.saw.state = .idle ∧ s.safety.output = .run ∧ cutFits k s.stem.state = true :=
      and_congr_right' (and_congr_right' (cutFits_iff k s.stem.state).symm)
    refine ⟨fun saw fit => ?_, fun saw unfit => ?_, fun other => ran.trans (congrArg State.done (commandCut_other other))⟩
    · exact ran.trans (congrArg State.done ((commandCut_saw (v := s.heard c) saw).trans (if_pos (fitting.mp fit))))
    · exact ran.trans (congrArg State.done ((commandCut_saw (v := s.heard c) saw).trans (if_neg (mt fitting.mpr unfit))))

/-! ### Grants (R95, R133 to R135) -/

theorem grantFits_iff (m : StemState) (k : CutKind) :
    grantFits m k = true ↔ (m = .gripped ∧ k = .fell) ∨
      ((m = .running ∨ m = .atMark ∨ m = .topped) ∧ (k = .trim ∨ k = .order)) := by
  cases m <;> cases k <;> decide

section
variable {v : State} {i : Ident} {serial : Half} {k : CutKind} {x : OrderIndex} {r : SawRecord}

theorem stemGrant_keeps (v : State) (k : CutKind) (x : OrderIndex) :
    (v.stemGrant k x).role = v.role ∧ (v.stemGrant k x).saw = v.saw ∧ (v.stemGrant k x).settings = v.settings ∧
      (v.stemGrant k x).fusion = v.fusion ∧ (v.stemGrant k x).stem.serial = v.stem.serial ∧
      (v.stemGrant k x).safety = v.safety := by
  unfold State.stemGrant
  split <;> exact ⟨rfl, rfl, rfl, rfl, rfl, rfl⟩

theorem sawGrant_other (other : v.role ≠ .saw) : v.sawGrant i serial k x = v := if_pos other

theorem sawGrant_matching (saw : v.role = .saw) (requested : v.saw.state = .requested) (record : v.saw.record = some r)
    (same : r.kind = k ∧ r.index = x) : v.sawGrant i serial k x = v.granted r i := by
  unfold State.sawGrant
  rw [if_neg (not_not.mpr saw), requested, record]
  exact if_pos same

theorem sawGrant_idle (saw : v.role = .saw) (idle : v.saw.state = .idle) :
    v.sawGrant i serial k x =
      if v.safety.output = .run then v.placeHandshake (.holdRelease serial k x .abandoned) else v := by
  unfold State.sawGrant
  rw [if_neg (not_not.mpr saw), idle]

theorem sawGrant_ignored (saw : v.role = .saw)
    (h : v.saw.state = .spin ∨ v.saw.state = .down ∨ v.saw.state = .ret ∨
      (v.saw.state = .requested ∧ ∀ r, v.saw.record = some r → ¬ (r.kind = k ∧ r.index = x))) :
    v.sawGrant i serial k x = v := by
  unfold State.sawGrant
  rw [if_neg (not_not.mpr saw)]
  split
  · next r requested record =>
    rw [requested] at h
    obtain spin | down | ret | ⟨-, none⟩ := h
    · cases spin
    · cases down
    · cases ret
    · exact if_neg (none r record)
  · next idle =>
    rw [idle] at h
    obtain spin | down | ret | ⟨requested, -⟩ := h
    · cases spin
    · cases down
    · cases ret
    · cases requested
  · rfl

/-- Whether a position dispute is noted (R133), by the kind and the positions. -/
theorem disputes_eq (σ : Settings) (p : Int) (r : SawRecord) :
    disputes σ p r =
      match r.pFeed with
      | some q => decide (r.kind = .order) && decide ((σ.disputeMargin : Int) * 1000 < |p - q|)
      | none => false := by
  obtain ⟨kind, index, attempt, pFeed, offsize, dispute, cutDone⟩ := r
  have margin (q : Int) : σ.disputeMargin * 1000 < (p - q).natAbs ↔ (σ.disputeMargin : Int) * 1000 < |p - q| := by
    rw [Int.abs_eq_natAbs]
    omega
  cases kind <;> cases pFeed <;> simp [disputes, margin]

/-- A cut that starts as SPIN is entered: DOWN alone is seen (R135). -/
theorem startCut_spin : (v.sawEnter .spin).startCut r =
    (v.placeHandshake (.cutStart v.stem.serial r.kind r.index r.attempt)).sawEnter .down := by
  rw [startCut_eq]
  have placed : (v.sawEnter .spin).placeHandshake (.cutStart v.stem.serial r.kind r.index r.attempt) =
      { v.placeHandshake (.cutStart v.stem.serial r.kind r.index r.attempt) with saw := (v.sawEnter .spin).saw } :=
    placeHandshake_saw_update v _ _
  rw [show (v.sawEnter .spin).stem.serial = v.stem.serial from rfl, placed]
  have saw := State.placeHandshake_saw v (.cutStart v.stem.serial r.kind r.index r.attempt)
  have now := State.placeHandshake_now v (.cutStart v.stem.serial r.kind r.index r.attempt)
  have settings := State.placeHandshake_settings v (.cutStart v.stem.serial r.kind r.index r.attempt)
  generalize v.placeHandshake (.cutStart v.stem.serial r.kind r.index r.attempt) = w at saw now settings ⊢
  simp [State.sawEnter, Saw.enter, sawTimeout, State.inMs, saw, now, settings]

theorem chainAtSpeed_iff (σ : Settings) (period : Option Nat) :
    chainAtSpeed σ period = true ↔ ∃ n, period = some n ∧ n ≤ σ.chainThreshold := by
  cases period <;> simp [chainAtSpeed]

/-- The record of a matching grant, with what the position check found (R133). -/
def checked (r : SawRecord) (dispute : Bool) : SawRecord := { r with dispute := r.dispute || dispute }

/-- The station that has noted, and where there is one told, the dispute of a matching grant (R133). -/
def noted (v : State) (r : SawRecord) (i : Ident) (dispute : Bool) : State :=
  let u : State := { v with saw.record := some (checked r dispute) }
  if dispute then u.report .positionDispute (some .holdGrant) (some i) else u

theorem noted_keeps (v : State) (r : SawRecord) (i : Ident) (dispute : Bool) :
    (noted v r i dispute).settings = v.settings ∧ (noted v r i dispute).saw.lastPeriod = v.saw.lastPeriod ∧
      (noted v r i dispute).stem = v.stem := by
  cases dispute <;> exact ⟨rfl, rfl, rfl⟩

theorem granted_eq (v : State) (r : SawRecord) (i : Ident) :
    v.granted r i =
      if chainAtSpeed v.settings v.saw.lastPeriod then
        ((noted v r i (disputes v.settings v.fusion.p r)).sawEnter .spin).startCut
          (checked r (disputes v.settings v.fusion.p r))
      else (noted v r i (disputes v.settings v.fusion.p r)).sawEnter .spin := by
  have mark (d : Bool) : (if d = true then { r with dispute := true } else r) = checked r d := by
    cases d <;> simp [checked]
  obtain ⟨settings, lastPeriod, -⟩ := noted_keeps v r i (disputes v.settings v.fusion.p r)
  have judged : v.granted r i =
      if chainAtSpeed (noted v r i (disputes v.settings v.fusion.p r)).settings
          (noted v r i (disputes v.settings v.fusion.p r)).saw.lastPeriod then
        ((noted v r i (disputes v.settings v.fusion.p r)).sawEnter .spin).startCut
          (checked r (disputes v.settings v.fusion.p r))
      else (noted v r i (disputes v.settings v.fusion.p r)).sawEnter .spin := by
    unfold State.granted
    simp only [mark]
    rfl
  rw [judged, settings, lastPeriod]

end

/-- Settles O39: what the stem unit takes of the grant, then the sequencer by its role and state. -/
theorem grantsAreTakenOrAnswered : Obligations.GrantsAreTakenOrAnswered := by
  intro t i serial kind index k x s c hears hk hx fits b answers
  have grant : (s.heard c).stemGrant k x = b := if_congr (grantFits_iff s.stem.state k) rfl rfl
  have ran : exec c s = (b.sawGrant i serial k x).done := grant ▸ exec_holdGrant hears hk hx
  obtain ⟨role, saw, settings, fusion, stemSerial, safety⟩ := stemGrant_keeps (s.heard c) k x
  rw [grant] at role saw settings fusion stemSerial safety
  refine ⟨fun other => ?_, fun r isSaw requested record sameKind sameIndex => ?_, fun isSaw idle run => ?_,
    fun isSaw idle stopped => ?_, fun isSaw ignored => ?_⟩
  · exact ran.trans (congrArg State.done (sawGrant_other (role.trans_ne other)))
  · intro dispute noted' told atSpeed
    have found : disputes b.settings b.fusion.p r = dispute := by
      rw [settings, fusion, disputes_eq, sameKind]
      rfl
    have taken : b.sawGrant i serial k x = b.granted r i :=
      sawGrant_matching (role.trans isSaw) ((congrArg Saw.state saw).trans requested) ((congrArg Saw.record saw).trans record)
        ⟨sameKind, sameIndex⟩
    rw [taken, granted_eq, found] at ran
    have speed : chainAtSpeed b.settings b.saw.lastPeriod = true ↔ atSpeed := by
      rw [settings, saw]
      exact chainAtSpeed_iff ..
    refine ⟨fun slow => ran.trans (congrArg State.done (if_neg (mt speed.mp slow))), fun fast => ?_⟩
    refine ran.trans (congrArg State.done ((if_pos (speed.mpr fast)).trans (startCut_spin.trans ?_)))
    obtain ⟨-, -, stem⟩ := noted_keeps b r i dispute
    have carried : (noted b r i dispute).stem.serial = s.stem.serial := (congrArg StemUnit.serial stem).trans stemSerial
    rw [carried, show (checked r dispute).kind = k from sameKind, show (checked r dispute).index = x from sameIndex]
    rfl
  · exact ran.trans (congrArg State.done ((sawGrant_idle (role.trans isSaw) ((congrArg Saw.state saw).trans idle)).trans
      (if_pos ((congrArg SafetyUnit.output safety).trans run))))
  · exact ran.trans (congrArg State.done ((sawGrant_idle (role.trans isSaw) ((congrArg Saw.state saw).trans idle)).trans
      (if_neg (((congrArg SafetyUnit.output safety).trans stopped).trans_ne (by decide)))))
  · rw [← show b.saw = s.saw from saw] at ignored
    exact ran.trans (congrArg State.done (sawGrant_ignored (role.trans isSaw) ignored))

end Sys2Proof.Proofs.Handshake
end

section
/-! PROOFS. The order queue (R100, R103 to R106): what ORDER stores, which order activation takes, and ORDER REJECT. -/

namespace Sys2Proof.Proofs.Orders

open Sys2Proof.Machine Sys2Proof.Proofs.Heard Sys2Proof.Proofs.Effects Sys2Proof.Proofs.Invariants

/-! ### The queue (R104, R105) -/

theorem slotFree_iff (slot : Option Order) : slotFree slot = true ↔ ∀ q, slot = some q → q.status = .pending := by
  cases slot <;> simp [slotFree]

theorem lowestWith_eq_some {orders : Vector (Option Order) 12} {st : OrderStatus} {j : Fin 12}
    (held : slotIs st orders[j] = true) (lower : ∀ l : Fin 12, l < j → slotIs st orders[l] = false) :
    lowestWith orders st = some j := by
  refine List.find?_eq_some_iff_getElem.mpr ⟨held, j.val, by simp, by simp, fun n small => ?_⟩
  have before := lower ⟨n, Nat.lt_trans small j.isLt⟩ small
  simpa using before

section
variable {v : State} {i : Ident} {index : Byte} {o : Order} {j : Fin 12}

theorem takeOrder_taken (same : index.toNat = j.val)
    (fits : 300 ≤ o.target ∧ o.target ≤ 30000 ∧ slotFree v.stem.orders[j] = true) :
    v.takeOrder i index o = State.activate { v with stem.orders := v.stem.orders.set j (some o) } := by
  obtain ⟨n, small⟩ := j
  change index.toNat = n at same
  subst same
  exact (dif_pos small).trans (if_pos fits)

theorem takeOrder_refused
    (h : ∀ j : Fin 12, index.toNat = j.val → ¬ (300 ≤ o.target ∧ o.target ≤ 30000 ∧ slotFree v.stem.orders[j] = true)) :
    v.takeOrder i index o = v.report .orderRefused (some .order) (some i) := by
  unfold State.takeOrder
  split
  · next small => exact if_neg (h ⟨index.toNat, small⟩ rfl)
  · rfl

/-- Activation without an order to make ACTIVE, or in a station that is not ready for one. -/
theorem activate_nothing (h : v.stem.state ≠ .running ∨ v.fusion.zeroed = false ∨
    (∃ j : Fin 12, slotIs .active v.stem.orders[j] = true) ∨ ∀ j : Fin 12, slotIs .pending v.stem.orders[j] = false) :
    v.activate = v := by
  obtain same | ⟨i, o, running, zeroed, free, lowest, -, -, -⟩ := activate_cases v
  · exact same
  · obtain other | unzeroed | ⟨j, active⟩ | none := h
    · exact absurd running other
    · rw [zeroed] at unzeroed
      cases unzeroed
    · rw [lowestWith_eq_none.mp free j] at active
      cases active
    · have pending := slotIs_of_lowestWith lowest
      rw [none i] at pending
      cases pending

/-- Activation of the PENDING order of lowest index (R105), which is then judged (R106). -/
theorem activate_lowest (running : v.stem.state = .running) (zeroed : v.fusion.zeroed = true)
    (free : ∀ l : Fin 12, slotIs .active v.stem.orders[l] = false)
    (lower : ∀ l : Fin 12, l < j → slotIs .pending v.stem.orders[l] = false) (held : v.stem.orders[j] = some o)
    (pending : o.status = .pending) :
    v.activate =
      State.judgePassed { v with stem.orders := v.stem.orders.set j (some { o with status := .active }) } j o := by
  have lowest : lowestWith v.stem.orders .pending = some j :=
    lowestWith_eq_some (held ▸ slotIs_some.mpr pending) lower
  unfold State.activate
  rw [if_pos ⟨running, zeroed, lowestWith_eq_none.mpr free⟩, lowest]
  simp only [held]

end

theorem exec_order {t : Nat} {i : Ident} {serial : Half} {index : Byte} {target : Half} {tm tp : Byte} {minTop : Half}
    {grade : Byte} {s : State} (hears : s.hearsInStem (.order t i serial index target tm tp minTop grade) serial) :
    exec (.order t i serial index target tm tp minTop grade) s =
      (State.takeOrder (s.heard (.order t i serial index target tm tp minTop grade)) i index
        (orderOf target tm tp minTop grade)).done :=
  exec_of_hearsInStem (g := fun v => v.takeOrder i index (orderOf target tm tp minTop grade)) rfl (fun _ => rfl) hears

/-- Settles O47: an order by its slot and its target, activation by the lowest PENDING order. -/
theorem ordersAreStoredAndActivated : Obligations.OrdersAreStoredAndActivated := by
  refine ⟨fun t i serial index target tm tp minTop grade s => ?_, fun s => ⟨activate_nothing, ?_⟩⟩
  · intro c hears o takes
    have ran : exec c s = ((s.heard c).takeOrder i index o).done := exec_order hears
    refine ⟨fun j ⟨same, low, high, free⟩ => ?_, fun none => ?_⟩
    · exact ran.trans (congrArg State.done (takeOrder_taken same ⟨low, high, (slotFree_iff _).mpr free⟩))
    · exact ran.trans (congrArg State.done (takeOrder_refused fun j same ⟨low, high, free⟩ =>
        none j ⟨same, low, high, (slotFree_iff _).mp free⟩))
  · intro j o running zeroed free lower held pending u passed
    have activated : s.activate = u.judgePassed j o := activate_lowest running zeroed free lower held pending
    refine ⟨fun saw beyond => activated.trans (if_pos ⟨saw, beyond⟩), fun spared => activated.trans (if_neg ?_)⟩
    rintro ⟨saw, beyond⟩
    exact spared.elim (absurd saw) (absurd beyond)

/-! ### ORDER REJECT (R100) -/

/-- A change to a stem state that neither ends the stem nor tops it moves the state and stops the two stem timers. -/
theorem enterStem_open {m : StemState} (v : State) (opened : m ≠ .noStem) (below : m ≠ .topped) :
    v.enterStem m = { v with stem.state := m, valves.knifeOpen := none, valves.wheelLift := none } := by
  simp [State.enterStem, opened, below]

/-- Activation moves the queue of the stem unit alone. -/
theorem activate_stem (v : State) : v.activate.stem = { v.stem with orders := v.activate.stem.orders } := by
  obtain same | ⟨i, o, -, -, -, -, -, -, eq⟩ := activate_cases v
  · rw [same]
  · rw [eq, State.judgePassed_stem]

theorem activate_vacant (v : State) {j : Fin 12} (empty : v.stem.orders[j] = none) : v.activate.stem.orders[j] = none := by
  obtain same | ⟨i, o, -, -, -, -, held, -, eq⟩ := activate_cases v
  · rw [same, empty]
  · rw [eq, State.judgePassed_stem, getElem_setSlot, if_neg, empty]
    rintro rfl
    rw [empty] at held
    cases held

theorem slotIs_pending_finishSlot {st : OrderStatus} (h : st ≠ .pending) (slot : Option Order) :
    slotIs .pending (finishSlot st slot) = false := by
  cases slot with
  | none => rfl
  | some o =>
    by_cases unfinished : o.status = .pending ∨ o.status = .active
    · simp [finishSlot_unfinished unfinished, slotIs, h]
    · obtain ⟨notPending, notActive⟩ := not_or.mp unfinished
      simp [finishSlot_final notPending notActive, slotIs, notPending]

/-- A station that leaves AT MARK for RUNNING (R99, R100). -/
def resumed (v : State) : State := if v.stem.state = .atMark then v.enterStem .running else v

theorem resumed_keeps (v : State) :
    (resumed v).stem = { v.stem with state := if v.stem.state = .atMark then .running else v.stem.state } ∧
      (resumed v).fusion = v.fusion ∧ (resumed v).profile = v.profile ∧ (resumed v).feed = v.feed ∧
      (resumed v).saw = v.saw ∧ (resumed v).safety = v.safety ∧ (resumed v).settings = v.settings ∧
      (resumed v).capture = v.capture ∧ (resumed v).phase = v.phase := by
  unfold resumed
  split
  · rw [enterStem_open v (by decide) (by decide)]
    exact ⟨rfl, rfl, rfl, rfl, rfl, rfl, rfl, rfl, rfl⟩
  · exact ⟨rfl, rfl, rfl, rfl, rfl, rfl, rfl, rfl, rfl⟩

/-- Settles O43: the order is finished, AT MARK left, and the activation of what the queue then holds. -/
theorem orderRejectActivatesTheNext : Obligations.OrderRejectActivatesTheNext := by
  intro t i serial index reason j s c hears named code
  let w : State := { s.heard c with stem.orders := finishOrder s.stem.orders (some j) .rejected }
  have ran : exec c s = (resumed w).activate.done := exec_orderReject hears named code
  obtain ⟨stem, fusion, profile, feed, saw, safety, settings, capture, phase⟩ := resumed_keeps w
  have slots (l : Fin 12) : (resumed w).stem.orders[l] =
      if j = l then finishSlot .rejected s.stem.orders[l] else s.stem.orders[l] := by
    rw [stem]
    exact (getElem_finishOrder ..).trans (if_congr (by simp) rfl rfl)
  have state : (resumed w).stem.state = if s.stem.state = .atMark then .running else s.stem.state :=
    congrArg StemUnit.state stem
  have unit : (resumed w).activate.stem =
      { s.stem with state := (resumed w).stem.state, orders := (resumed w).activate.stem.orders } :=
    (activate_stem (resumed w)).trans (congrArg (fun u : StemUnit => { u with
      state := (resumed w).stem.state, orders := (resumed w).activate.stem.orders }) stem)
  have final := activate_final (resumed w)
  have vacant (l : Fin 12) := activate_vacant (resumed w) (j := l)
  have activated (m : Fin 12) (q : Order) (running : (resumed w).stem.state = .running)
      (zeroed : (resumed w).fusion.zeroed = true) (free : ∀ l : Fin 12, slotIs .active (resumed w).stem.orders[l] = false)
      (lower : ∀ l : Fin 12, l < m → slotIs .pending (resumed w).stem.orders[l] = false)
      (held : (resumed w).stem.orders[m] = some q) (pending : q.status = .pending) :
      (resumed w).activate.stem.orders[m] = some { q with status := .active } := by
    rw [activate_lowest running zeroed free lower held pending, State.judgePassed_stem, getElem_setSlot, if_pos rfl]
  have fusion' := (State.activate_fusion (resumed w)).trans fusion
  have profile' := (State.activate_profile (resumed w)).trans profile
  have settings' := (State.activate_settings (resumed w)).trans settings
  have capture' := (State.activate_capture (resumed w)).trans capture
  have feed' := (State.activate_feed (resumed w)).trans feed
  have saw' := (State.activate_saw (resumed w)).trans saw
  have output' := (activate_output (resumed w)).trans (congrArg SafetyUnit.output safety)
  have phase' := (State.activate_phase (resumed w)).trans phase
  generalize (resumed w).activate = z at *
  have hold : z.feed.hold = s.feed.hold := congrArg Feed.hold feed'
  have sawState : z.saw.state = s.saw.state := congrArg Saw.state saw'
  refine ⟨_, ran, (congrArg StemUnit.state unit).trans state, fun q held unfinished => ?_, fun empty => ?_,
    fun q held notPending notActive => ?_, fun m q working zeroed other held pending noActive lower => ?_,
    (congrArg StemUnit.serial unit :), (congrArg StemUnit.view unit :), (congrArg StemUnit.returnState unit :),
    (congrArg StemUnit.logNumber unit :), fusion', profile', settings', capture', hold, sawState, output', phase'⟩
  · refine final j _ ((slots j).trans ?_) (by simp) (by simp)
    rw [if_pos rfl, held, finishSlot_unfinished unfinished]
  · refine vacant j ((slots j).trans ?_)
    rw [if_pos rfl, empty, finishSlot_none]
  · refine final j _ ((slots j).trans ?_) notPending notActive
    rw [if_pos rfl, held, finishSlot_final notPending notActive]
  · refine activated m q ?_ ((congrArg Fusion.zeroed fusion).trans zeroed) (fun l => ?_) (fun l less => ?_)
      ((slots m).trans ((if_neg (Ne.symm other)).trans held)) pending
    · rw [state]
      obtain running | atMark := working
      · exact (if_neg (running.trans_ne (by decide))).trans running
      · exact if_pos atMark
    · rw [slots]
      split
      · exact slotIs_active_finishSlot (by decide) _
      · next different => exact noActive l (Ne.symm different)
    · rw [slots]
      split
      · exact slotIs_pending_finishSlot (by decide) _
      · next different => exact lower l less (Ne.symm different)

end Sys2Proof.Proofs.Orders
end

section
/-! PROOFS. The stem (R74 to R76, R84, R91 to R93, R97 to R99, R102, R107, R108): opened, closed, released and cut. -/

namespace Sys2Proof.Proofs.Stems

open Sys2Proof.Machine Sys2Proof.Proofs.Heard Sys2Proof.Proofs.Orders Sys2Proof.Proofs.Effects Sys2Proof.Proofs.Invariants

/-! ### Opening and closing (R91 to R93) -/

/-- What a STEM OPEN taken in OPERATING does (R91). -/
def opened (serial : Half) (i : Ident) (v : State) : State :=
  if v.stem.state = .noStem then v.openStem serial else v.report .stemBusy (some .stemOpen) (some i)

/-- What a STEM CLOSE of the open stem does (R92, R93). -/
def closed (v : State) : State := if v.stem.state = .cutting then { v with stem.closePending := true } else v.closeStem

theorem openStem_eq (v : State) (serial : Half) :
    v.openStem serial =
      { v with
        stem :=
          { state := .gripped, serial := serial, returnState := none, closePending := false, view := none
            orders := Vector.replicate 12 none, logNumber := 0, offsizeMark := false, disputeMark := false }
        fusion := v.fusion.open_
        profile := { v.profile.clear with thinTravel := 0 }
        valves.knifeOpen := none
        valves.wheelLift := none } :=
  enterStem_open _ (by decide) (by decide)

/-- Settles O46: by the stem state. -/
theorem stemsOpenFreshAndCloseEmpty : Obligations.StemsOpenFreshAndCloseEmpty := by
  refine ⟨fun t i serial s => ?_, fun t i serial s => ?_⟩
  · intro c hears
    have ran : exec c s = (opened serial i (s.heard c)).done := exec_of_hearsWorking rfl (fun _ => rfl) hears
    refine ⟨fun busy => ran.trans (congrArg State.done (if_neg busy)), fun free => ?_⟩
    have fresh : opened serial i (s.heard c) = _ := (if_pos free).trans (openStem_eq (s.heard c) serial)
    exact ⟨_, ran.trans (congrArg State.done fresh), rfl, rfl, clear_buckets s.profile, rfl, rfl, rfl, rfl, rfl, rfl, rfl, rfl,
      rfl, rfl, rfl, rfl, rfl⟩
  · intro c hears
    have ran : exec c s = (closed (s.heard c)).done := exec_of_hearsInStem rfl (fun _ => rfl) hears
    exact ⟨fun cutting => ran.trans (congrArg State.done (if_pos cutting)),
      fun other => ran.trans (congrArg State.done (if_neg other))⟩

/-! ### The release of the hold (R93, R98, R99, R123) -/

/-- A change to a stem state other than NO STEM leaves track, profile and sequencer; only TOPPED ends AUTO. -/
theorem enterStem_kept {m : StemState} (v : State) (opened : m ≠ .noStem) :
    (v.enterStem m).stem = { v.stem with state := m } ∧ (v.enterStem m).fusion = v.fusion ∧
      (v.enterStem m).profile = v.profile ∧ (v.enterStem m).saw = v.saw ∧
      (v.enterStem m).feed = (if m = .topped then v.feed.toManual else v.feed) := by
  refine ⟨rfl, if_neg opened, if_neg opened, if_neg fun both => opened both.1, (if_neg opened).trans ?_⟩
  exact if_congr (or_iff_left opened) rfl rfl

/-- Activation leaves the parts of the station beside queue, link and fault record. -/
theorem activate_keeps (v : State) :
    v.activate.stem = { v.stem with orders := v.activate.stem.orders } ∧ v.activate.fusion = v.fusion ∧
      v.activate.profile = v.profile ∧ v.activate.feed = v.feed ∧ v.activate.saw = v.saw :=
  ⟨activate_stem v, State.activate_fusion v, State.activate_profile v, State.activate_feed v, State.activate_saw v⟩

/-- The stem closed (R92, R93). -/
theorem closeStem_keeps (v : State) :
    v.closeStem.stem.state = .noStem ∧ v.closeStem.fusion.p = 0 ∧ v.closeStem.stem.view = none ∧
      (∀ j : Fin 12, v.closeStem.stem.orders[j] = none) ∧ v.closeStem.feed = v.feed.toManual.free ∧
      v.closeStem.stem.serial = v.stem.serial ∧ v.closeStem.stem.logNumber = v.stem.logNumber := by
  refine ⟨rfl, rfl, rfl, fun j => ?_, rfl, rfl, rfl⟩
  show (Vector.replicate 12 (none : Option Order))[j] = none
  simp

/-- The station that leaves CUTTING for a stem state, before activation (R98, R102). -/
def left (v : State) (m : StemState) : State :=
  State.enterStem { v with stem.returnState := none, stem.view := none } m

theorem leaveCutting_pending {v : State} (m : StemState) (pending : v.stem.closePending = true) :
    v.leaveCutting m = v.closeStem := if_pos pending

theorem leaveCutting_none {v : State} (m : StemState) (none : v.stem.closePending = false) :
    v.leaveCutting m = (left v m).activate := if_neg (Bool.eq_false_iff.mp none)

section
variable (v : State) (k : CutKind) (x : OrderIndex) (o : HoldOutcome)

theorem applyOutcome_eq (u : StemUnit) : u.applyOutcome k x o = { u with orders := (u.applyOutcome k x o).orders } := by
  unfold StemUnit.applyOutcome
  split <;> rfl

/-- A FAILED ORDER cut interrupts its unfinished order (R98, R99). -/
theorem applyOutcome_failed {u : StemUnit} {j : Fin 12} {q : Order} (held : u.orders[j] = some q)
    (unfinished : q.status = .pending ∨ q.status = .active) :
    (u.applyOutcome .order (some j) .failed).orders[j] = some { q with status := .interrupted } := by
  show (finishOrder u.orders (some j) .interrupted)[j] = _
  rw [getElem_finishOrder, if_pos rfl, held, finishSlot_unfinished unfinished]

theorem releaseTarget_applyOutcome (u : StemUnit) : releaseTarget (u.applyOutcome k x o) o = releaseTarget u o := by
  rw [applyOutcome_eq]
  rfl

theorem stemRelease_cutting (cutting : v.stem.state = .cutting) :
    v.stemRelease k x o =
      State.leaveCutting { v with stem := v.stem.applyOutcome k x o } (releaseTarget v.stem o) := by
  rw [← releaseTarget_applyOutcome k x o v.stem]
  exact if_pos ((applyOutcome_state ..).trans cutting)

/-- The stem state after a HOLD RELEASE that closes no stem (R98, R99). -/
def releasedState (u : StemUnit) (k : CutKind) (o : HoldOutcome) : StemState :=
  if u.state = .cutting then releaseTarget u o
  else if u.state = .atMark ∨ (u.state = .gripped ∧ k = .fell ∧ o = .done) then .running
  else u.state

/-- A HOLD RELEASE that closes no stem applies the outcome, clears the view, sets the stem state and brings activation. -/
theorem stemRelease_open (open_ : ¬ (v.stem.state = .cutting ∧ v.stem.closePending = true)) :
    ∃ y : State, v.stemRelease k x o = y.activate ∧
      y.stem =
        { v.stem.applyOutcome k x o with
          state := releasedState v.stem k o
          view := none
          returnState := if v.stem.state = .cutting then none else v.stem.returnState } ∧
      y.fusion = v.fusion ∧ y.profile = v.profile ∧ (y.feed = v.feed ∨ y.feed = v.feed.toManual) := by
  have state := applyOutcome_state v.stem k x o
  have unit := applyOutcome_eq k x o v.stem
  by_cases cutting : v.stem.state = .cutting
  · have unclosed : v.stem.closePending = false := Bool.eq_false_iff.mpr fun pending => open_ ⟨cutting, pending⟩
    obtain ⟨stem, fusion, profile, -, feed⟩ := enterStem_kept
      { v with stem := { v.stem.applyOutcome k x o with returnState := none, view := none } }
      (releaseTarget_ne_noStem v.stem o)
    refine ⟨left { v with stem := v.stem.applyOutcome k x o } (releaseTarget v.stem o), ?_, ?_, fusion, profile, ?_⟩
    · rw [stemRelease_cutting v k x o cutting]
      refine leaveCutting_none _ ?_
      show (v.stem.applyOutcome k x o).closePending = false
      rw [unit]
      exact unclosed
    · refine stem.trans ?_
      rw [releasedState, if_pos cutting, if_pos cutting]
    · rw [left, feed]
      split
      · exact .inr rfl
      · exact .inl rfl
  · let w : State := { v with stem := { v.stem.applyOutcome k x o with view := none } }
    have ran : v.stemRelease k x o =
        (if v.stem.state = .atMark ∨ (v.stem.state = .gripped ∧ k = .fell ∧ o = .done) then w.enterStem .running
         else w).activate := by
      refine (if_neg ((state.trans_ne cutting))).trans (congrArg State.activate (if_congr ?_ rfl rfl))
      rw [← state]
    have returnState : (v.stem.applyOutcome k x o).returnState = v.stem.returnState := by rw [unit]
    by_cases resumes : v.stem.state = .atMark ∨ (v.stem.state = .gripped ∧ k = .fell ∧ o = .done)
    · rw [if_pos resumes] at ran
      obtain ⟨stem, fusion, profile, -, feed⟩ := enterStem_kept w (m := .running) (by decide)
      refine ⟨_, ran, stem.trans ?_, fusion, profile, .inl feed⟩
      rw [releasedState, if_neg cutting, if_pos resumes, if_neg cutting, ← returnState]
    · rw [if_neg resumes] at ran
      refine ⟨_, ran, ?_, rfl, rfl, .inl rfl⟩
      rw [releasedState, if_neg cutting, if_neg resumes, if_neg cutting, ← returnState, ← state]

theorem stemRelease_keeps :
    (v.stemRelease k x o).settings = v.settings ∧ (v.stemRelease k x o).capture = v.capture ∧
      (v.stemRelease k x o).phase = v.phase ∧ (v.stemRelease k x o).identity = v.identity ∧
      (v.stemRelease k x o).peers = v.peers ∧ (v.stemRelease k x o).safety.output = v.safety.output := by
  unfold State.stemRelease
  dsimp only
  split
  · simp
  · split <;> simp

end

/-- The feed hold ends (R123); AUTO ends with it unless the cut is done (R112). -/
theorem released_ends (f : Feed) (o : HoldOutcome) :
    (f.released o).hold = .free ∧
      (f.hold ≠ .free → (f.released o).holdRecord = none ∧ (o ≠ .done → (f.released o).mode = .manual)) := by
  unfold Feed.released
  split
  · next free => exact ⟨free, fun held => absurd free held⟩
  · split
    · next done => exact ⟨rfl, fun _ => ⟨rfl, fun other => absurd done other⟩⟩
    · exact ⟨toManual_hold _, fun _ => ⟨by unfold Feed.toManual; split <;> rfl, fun _ => toManual_mode _⟩⟩

/-- A hold that has ended stays ended through a change to MANUAL. -/
theorem toManual_ended {f : Feed} (hold : f.hold = .free) :
    f.toManual.hold = .free ∧ (f.holdRecord = none → f.toManual.holdRecord = none) ∧ f.toManual.mode = .manual := by
  refine ⟨(toManual_hold f).trans hold, fun record => ?_, toManual_mode f⟩
  unfold Feed.toManual
  split <;> exact record

/-- The feed after a HOLD RELEASE: released, and taken to MANUAL or freed where the stem unit's part does so. -/
theorem holdEnds {f g : Feed} {o : HoldOutcome}
    (h : g = f.released o ∨ g = (f.released o).toManual ∨ g = (f.released o).toManual.free) :
    g.hold = .free ∧ (f.hold ≠ .free → g.holdRecord = none ∧ (o ≠ .done → g.mode = .manual)) := by
  obtain ⟨hold, ended⟩ := released_ends f o
  obtain ⟨hold', record', mode'⟩ := toManual_ended hold
  obtain rfl | rfl | rfl := h
  · exact ⟨hold, ended⟩
  · exact ⟨hold', fun held => ⟨record' (ended held).1, fun _ => mode'⟩⟩
  · exact ⟨rfl, fun _ => ⟨rfl, fun _ => mode'⟩⟩

theorem releasedState_cutting {u : StemUnit} {k : CutKind} {o : HoldOutcome} (cutting : u.state = .cutting) :
    releasedState u k o = releaseTarget u o := if_pos cutting

/-- Whether the view shows the cut DONE (R98). -/
def cutDone (u : StemUnit) : Prop := ∃ v, u.view = some v ∧ v.progress = .done

theorem releaseTarget_topped {u : StemUnit} (o : HoldOutcome) (h : u.returnState = some .topped) :
    releaseTarget u o = .topped := by
  unfold releaseTarget
  rw [h]

theorem releaseTarget_running {u : StemUnit} (o : HoldOutcome)
    (h : u.returnState = some .running ∨ u.returnState = some .atMark) : releaseTarget u o = .running := by
  unfold releaseTarget
  obtain h | h := h <;> rw [h]

theorem releaseTarget_felled {u : StemUnit} {o : HoldOutcome} (h : u.returnState = some .gripped)
    (done : cutDone u ∨ o = .done) : releaseTarget u o = .running := by
  unfold releaseTarget
  simp only [h]
  obtain ⟨v, view, done⟩ | done := done
  · simp [view, done]
  · exact if_pos done

theorem releaseTarget_gripped {u : StemUnit} {o : HoldOutcome} (h : u.returnState = some .gripped)
    (notDone : ¬ cutDone u) (other : o ≠ .done) : releaseTarget u o = .gripped := by
  unfold releaseTarget
  simp only [h]
  refine (if_neg other).trans ?_
  split
  · next v view => exact if_neg fun done => notDone ⟨v, view, done⟩
  · rfl

/-- The entries of the other stations after a heard frame (R36). -/
theorem heard_others {c : Instr} {f : RawFrame} {s z : State} {i : Ident} (frame : observedFrame c = some f)
    (sender : f.sender = i) (peers : z.peers = (s.heard c).peers) (identity : z.identity = s.identity) (j : Fin 8)
    (other : j ≠ i) (foreign : j ≠ s.identity) : z.refresh.peers[j] = s.peers[j] := by
  rw [getElem_refresh_peers, if_neg (identity ▸ foreign), peers, heard_eq frame]
  exact Shared.record_other s _ f (sender ▸ other)

/-- Settles O40: a pending close ends the stem; otherwise the stem unit follows `stemRelease_open`. -/
theorem holdReleaseEndsTheHandshake : Obligations.HoldReleaseEndsTheHandshake := by
  intro t i serial kind index outcome k x o s c hears hk hx ho
  let w : State := { s.heard c with feed := s.feed.released o }
  have ran : exec c s = (w.stemRelease k x o).done := exec_holdRelease hears hk hx ho
  obtain ⟨settings, capture, phase, identity, peers, output⟩ := stemRelease_keeps w k x o
  have others := heard_others (c := c) (s := s) rfl rfl peers identity
  by_cases closes : s.stem.state = .cutting ∧ s.stem.closePending = true
  · have taken : w.stemRelease k x o = State.closeStem { w with stem := s.stem.applyOutcome k x o } :=
      (stemRelease_cutting w k x o closes.1).trans (leaveCutting_pending _ (by
        show (s.stem.applyOutcome k x o).closePending = true
        rw [applyOutcome_eq]
        exact closes.2))
    obtain ⟨state, p, view, empty, feed, serial', logNumber⟩ := closeStem_keeps { w with stem := s.stem.applyOutcome k x o }
    rw [← taken] at state p view empty feed serial' logNumber
    have ended := holdEnds (f := s.feed) (o := o) (.inr (.inr feed))
    have unit := applyOutcome_eq k x o s.stem
    have serial : (w.stemRelease k x o).stem.serial = s.stem.serial := serial'.trans (by rw [unit])
    have logNumber : (w.stemRelease k x o).stem.logNumber = s.stem.logNumber := logNumber.trans (by rw [unit])
    generalize w.stemRelease k x o = z at *
    have cutting (m : StemState) (at_ : s.stem.state = m) (other : m ≠ .cutting) : False := other (at_.symm.trans closes.1)
    exact ⟨_, ran, view, fun held => ⟨ended.1, ended.2 held⟩, fun _ => ended.1, fun _ => ⟨state, p, empty⟩,
      fun _ open_ => absurd closes open_, fun atMark => (cutting _ atMark (by decide)).elim,
      fun gripped => (cutting _ gripped (by decide)).elim,
      fun other => (other.elim (cutting _ · (by decide)) (cutting _ · (by decide))).elim, fun open_ => absurd closes open_,
      fun open_ => absurd closes open_, settings, capture, serial, output, phase, logNumber, others⟩
  · obtain ⟨y, taken, stem, fusion, profile, feed⟩ := stemRelease_open w k x o closes
    obtain ⟨stem', fusion', profile', feed', -⟩ := activate_keeps y
    have final := activate_final y
    rw [← taken] at stem' fusion' profile' feed' final
    have unit := stem'.trans (congrArg (fun u : StemUnit => { u with orders := (w.stemRelease k x o).stem.orders }) stem)
    have same := applyOutcome_eq k x o s.stem
    have orders : y.stem.orders = (s.stem.applyOutcome k x o).orders := (congrArg StemUnit.orders stem :)
    have state : (w.stemRelease k x o).stem.state = releasedState s.stem k o := congrArg StemUnit.state unit
    have view : (w.stemRelease k x o).stem.view = none := congrArg StemUnit.view unit
    have returnState : (w.stemRelease k x o).stem.returnState =
        if s.stem.state = .cutting then none else s.stem.returnState := congrArg StemUnit.returnState unit
    have serial : (w.stemRelease k x o).stem.serial = s.stem.serial :=
      (congrArg StemUnit.serial unit :).trans (congrArg StemUnit.serial same :)
    have logNumber : (w.stemRelease k x o).stem.logNumber = s.stem.logNumber :=
      (congrArg StemUnit.logNumber unit :).trans (congrArg StemUnit.logNumber same :)
    have ended := holdEnds (f := s.feed) (o := o)
      (feed.elim (fun kept => .inl (feed'.trans kept)) fun manual => .inr (.inl (feed'.trans manual)))
    have fusion := fusion'.trans fusion
    have profile := profile'.trans profile
    generalize w.stemRelease k x o = z at *
    refine ⟨_, ran, view, fun held => ⟨ended.1, ended.2 held⟩, fun _ => ended.1, fun close => absurd close closes,
      fun cutting _ => ?_, fun atMark => ?_, fun gripped => ?_, fun working => ?_,
      fun _ j q named order failed held unfinished => ?_, fun _ => ⟨fusion, profile⟩, settings, capture, serial, output, phase,
      logNumber, others⟩
    · have state := state.trans (releasedState_cutting cutting)
      exact ⟨returnState.trans (if_pos cutting), fun topped => state.trans (releaseTarget_topped o topped),
        fun gripped done => state.trans (releaseTarget_felled gripped done),
        fun gripped notDone other => state.trans (releaseTarget_gripped gripped notDone other),
        fun running => state.trans (releaseTarget_running o running)⟩
    · exact state.trans (by simp [releasedState, atMark])
    · refine state.trans ?_
      simp only [releasedState, gripped]
      simp
    · obtain running | topped := working
      · exact state.trans (by simp [releasedState, running])
      · exact state.trans (by simp [releasedState, topped])
    · subst named order failed
      refine final j _ ?_ (by simp) (by simp)
      rw [orders]
      exact applyOutcome_failed held unfinished

end Sys2Proof.Proofs.Stems
end

section
/-! PROOFS. CUT DONE (R61, R74, R84, R85, R97, R107, R108): the zero event, the log record of an own cut and the diameters it
reads. -/

namespace Sys2Proof.Proofs.CutDone

open Sys2Proof.Machine Sys2Proof.Proofs.Heard Sys2Proof.Proofs.Orders Sys2Proof.Proofs.Stems Sys2Proof.Proofs.Effects
open Sys2Proof.Proofs.Invariants

/-! ### The diameter of a bucket (R85) -/

section
variable {buckets : Vector (Option Nat) 400}

theorem bucketOrBelow_skip {k : Nat} (empty : ∀ h : k + 1 < 400, buckets[k + 1] = none) :
    bucketOrBelow buckets (k + 1) = bucketOrBelow buckets k := by
  rw [bucketOrBelow]
  split
  · next mm filled =>
    obtain ⟨small, filled⟩ := Vector.getElem?_eq_some_iff.mp filled
    rw [empty small] at filled
    cases filled
  · rfl

theorem bucketOrBelow_here {k : Fin 400} {mm : Nat} (filled : buckets[k] = some mm) : bucketOrBelow buckets k = mm := by
  obtain ⟨k, small⟩ := k
  change buckets[k] = some mm at filled
  cases k with
  | zero => rw [bucketOrBelow, filled, Option.getD_some]
  | succ k =>
    rw [bucketOrBelow, Vector.getElem?_eq_getElem small, filled]

theorem bucketOrBelow_nearest {k : Nat} {j : Fin 400} {mm : Nat} (below : j.val ≤ k) (filled : buckets[j] = some mm)
    (empty : ∀ l : Fin 400, j < l → l.val ≤ k → buckets[l] = none) : bucketOrBelow buckets k = mm := by
  induction k with
  | zero => exact Nat.le_zero.mp below ▸ bucketOrBelow_here filled
  | succ k ih =>
    by_cases here : j.val = k + 1
    · exact here ▸ bucketOrBelow_here filled
    · rw [bucketOrBelow_skip fun small => empty ⟨k + 1, small⟩ (by show j.val < k + 1; omega) (Nat.le_refl _)]
      exact ih (by omega) filled fun l above within => empty l above (by omega)

theorem bucketOrBelow_empty {k : Nat} (empty : ∀ l : Fin 400, l.val ≤ k → buckets[l] = none) :
    bucketOrBelow buckets k = 0 := by
  induction k with
  | zero =>
    have first : buckets[0] = none := empty 0 (Nat.le_refl _)
    rw [bucketOrBelow, first, Option.getD_none]
  | succ k ih =>
    rw [bucketOrBelow_skip fun small => empty ⟨k + 1, small⟩ (Nat.le_refl _)]
    exact ih fun l within => empty l (by omega)

end

/-! ### The completed cut (R97, R107, R108) -/

theorem placeLog_output (v : State) (r : LogRecord) : (v.placeLog r).safety.output = v.safety.output := by
  unfold State.placeLog
  split
  · rfl
  · split <;> rfl

theorem activate_logFifo (v : State) : v.activate.link.logFifo = v.link.logFifo := by
  obtain same | ⟨i, o, -, -, -, -, -, -, eq⟩ := activate_cases v
  · rw [same]
  · rw [eq]
    unfold State.judgePassed State.placeHandshake
    split
    · split
      · rfl
      · split <;> rfl
    · rfl

/-- The station once its log record is queued and the log number raised, before the zero event (R97, R107). -/
def logged (v : State) (sender : Ident) (k : CutKind) (x : OrderIndex) : State :=
  let w : State := { v with stem.logNumber := satAdd v.stem.logNumber 1 }
  if w.role = .saw ∧ sender = w.identity then w.buildLog k x else w

/-- The stem unit after a CUT DONE, before activation (R97). -/
def cutUnit (u : StemUnit) (k : CutKind) (x : OrderIndex) : StemUnit :=
  { u with orders := if k = CutKind.order then finishOrder u.orders x .cut else u.orders }.progressTo k x .done

theorem takeCutDone_eq (v : State) (sender : Ident) (k : CutKind) (x : OrderIndex) :
    v.takeCutDone sender k x =
      (State.zeroEvent
        { logged v sender k x with stem := cutUnit (logged v sender k x).stem k x }).activate := by
  unfold State.takeCutDone cutUnit
  dsimp only
  show State.activate (State.zeroEvent _) = _
  by_cases order : k = CutKind.order
  · subst order
    rfl
  · simp only [order, if_false]
    rfl

section
variable (v : State) (sender : Ident) (k : CutKind) (x : OrderIndex)

/-- What the log record takes is queued; the marks alone move in the stem unit beside the log number (R107, R108). -/
theorem logged_keeps :
    (logged v sender k x).fusion = v.fusion ∧ (logged v sender k x).profile = v.profile ∧
      (logged v sender k x).feed = v.feed ∧ (logged v sender k x).saw = v.saw ∧
      (logged v sender k x).settings = v.settings ∧ (logged v sender k x).capture = v.capture ∧
      (logged v sender k x).phase = v.phase ∧ (logged v sender k x).identity = v.identity ∧
      (logged v sender k x).peers = v.peers ∧ (logged v sender k x).safety.output = v.safety.output := by
  unfold logged
  dsimp only
  split
  · simp [State.buildLog, placeLog_output]
  · simp

theorem logged_stem :
    (logged v sender k x).stem =
      { v.stem with
        logNumber := satAdd v.stem.logNumber 1
        offsizeMark := if v.role = .saw ∧ sender = v.identity then false else v.stem.offsizeMark
        disputeMark := if v.role = .saw ∧ sender = v.identity then false else v.stem.disputeMark } := by
  by_cases own : v.role = .saw ∧ sender = v.identity
  · refine (congrArg State.stem (if_pos own)).trans ?_
    rw [if_pos own, if_pos own, State.buildLog, State.placeLog_stem]
  · refine (congrArg State.stem (if_neg own)).trans ?_
    rw [if_neg own, if_neg own]

theorem logged_foreign (foreign : ¬ (v.role = .saw ∧ sender = v.identity)) :
    (logged v sender k x).link.logFifo = v.link.logFifo := by
  have kept : logged v sender k x = { v with stem.logNumber := satAdd v.stem.logNumber 1 } := if_neg foreign
  rw [kept]

theorem logged_own (own : v.role = .saw ∧ sender = v.identity) (awake : v.phase ≠ .silent)
    (room : v.link.logFifo.length < 4) :
    (logged v sender k x).link.logFifo =
      v.link.logFifo ++
        [⟨.logRecord (State.logRecordOf { v with stem.logNumber := satAdd v.stem.logNumber 1 } k x), 0⟩] := by
  have placed := Shared.placeLog_room { v with stem.logNumber := satAdd v.stem.logNumber 1 }
    (State.logRecordOf { v with stem.logNumber := satAdd v.stem.logNumber 1 } k x) awake room
  unfold logged
  refine (congrArg (fun u : State => u.link.logFifo) (if_pos own)).trans ?_
  exact congrArg (fun u : State => u.link.logFifo) placed

theorem cutUnit_view (u : StemUnit) : ∃ w, (cutUnit u k x).view = some w ∧ w.progress = .done := by
  unfold cutUnit StemUnit.progressTo
  dsimp only
  split <;> exact ⟨_, rfl, rfl⟩

theorem cutUnit_order {u : StemUnit} {j : Fin 12} {q : Order} (held : u.orders[j] = some q)
    (unfinished : q.status = .pending ∨ q.status = .active) :
    (cutUnit u .order (some j)).orders[j] = some { q with status := .cut } := by
  show (finishOrder u.orders (some j) .cut)[j] = _
  rw [getElem_finishOrder, if_pos rfl, held, finishSlot_unfinished unfinished]

end

theorem zeroEvent_feed (f : Feed) :
    f.zeroEvent.mode = f.mode ∧ f.zeroEvent.hold = f.hold ∧ (f.mode = .auto → f.zeroEvent.approachOrder = none) := by
  unfold Feed.zeroEvent
  split
  · exact ⟨rfl, rfl, fun _ => rfl⟩
  · next manual => exact ⟨rfl, rfl, fun auto => absurd auto manual⟩

/-- The station after the CUT DONE and before activation. -/
def zeroedBy (v : State) (sender : Ident) (k : CutKind) (x : OrderIndex) : State :=
  State.zeroEvent { logged v sender k x with stem := cutUnit (logged v sender k x).stem k x }

/-- Settles O41: the log record, the stem unit, the zero event and activation one after the other; a bucket is read from
the nearest filled one at or below it. -/
theorem cutDoneIsTheZeroEvent : Obligations.CutDoneIsTheZeroEvent := by
  refine ⟨fun t i serial kind index pAtCut k x s => ?_, fun buckets k => ⟨fun j mm => bucketOrBelow_nearest, bucketOrBelow_empty⟩⟩
  intro c hears hk hx
  have awake : s.phase ≠ .silent := hears.1.1.trans_ne (by decide)
  have ran : exec c s = (zeroedBy (s.heard c) i k x).activate.done :=
    (exec_cutDone hears hk hx).trans (congrArg State.done (takeCutDone_eq ..))
  obtain ⟨fusion, profile, feed, saw, settings, capture, phase, identity, peers, output⟩ := logged_keeps (s.heard c) i k x
  obtain ⟨stem', fusion', profile', feed', saw'⟩ := activate_keeps (zeroedBy (s.heard c) i k x)
  have unit := logged_stem (s.heard c) i k x
  have stem : (zeroedBy (s.heard c) i k x).activate.stem =
      { (logged (s.heard c) i k x).stem with
        view := (cutUnit (logged (s.heard c) i k x).stem k x).view
        orders := (zeroedBy (s.heard c) i k x).activate.stem.orders } := stem'
  obtain ⟨shown, view, done⟩ := cutUnit_view k x (logged (s.heard c) i k x).stem
  have final : FinalKept (cutUnit (logged (s.heard c) i k x).stem k x).orders _ :=
    activate_final (zeroedBy (s.heard c) i k x)
  have fifo : (zeroedBy (s.heard c) i k x).activate.link.logFifo = (logged (s.heard c) i k x).link.logFifo :=
    activate_logFifo (zeroedBy (s.heard c) i k x)
  have foreign (h : ¬ (s.role = .saw ∧ i = s.identity)) := fifo.trans (logged_foreign (s.heard c) i k x h)
  have own (h : s.role = .saw ∧ i = s.identity) (room : s.link.logFifo.length < 4) :=
    fifo.trans (logged_own (s.heard c) i k x h awake room)
  have fusion := fusion'.trans (congrArg Fusion.zeroEvent fusion)
  have profile := profile'.trans (congrArg Profile.clear profile)
  obtain ⟨mode, hold, approach⟩ := zeroEvent_feed s.feed
  have feed := feed'.trans (congrArg Feed.zeroEvent feed)
  have saw := saw'.trans saw
  have settings := (State.activate_settings (zeroedBy (s.heard c) i k x)).trans settings
  have capture := (State.activate_capture (zeroedBy (s.heard c) i k x)).trans capture
  have output := (activate_output (zeroedBy (s.heard c) i k x)).trans output
  have phase := (State.activate_phase (zeroedBy (s.heard c) i k x)).trans phase
  have others := heard_others (c := c) (s := s) rfl rfl ((State.activate_peers (zeroedBy (s.heard c) i k x)).trans peers)
    ((State.activate_identity (zeroedBy (s.heard c) i k x)).trans identity)
  have logNumber := (congrArg StemUnit.logNumber stem :).trans (congrArg StemUnit.logNumber unit :)
  have state := (congrArg StemUnit.state stem :).trans (congrArg StemUnit.state unit :)
  have stemSerial := (congrArg StemUnit.serial stem :).trans (congrArg StemUnit.serial unit :)
  have offsize := (congrArg StemUnit.offsizeMark stem :).trans (congrArg StemUnit.offsizeMark unit :)
  have dispute := (congrArg StemUnit.disputeMark stem :).trans (congrArg StemUnit.disputeMark unit :)
  have queue : (logged (s.heard c) i k x).stem.orders = s.stem.orders := (congrArg StemUnit.orders unit :)
  have shows := (congrArg StemUnit.view stem :).trans view
  generalize (zeroedBy (s.heard c) i k x).activate = z at *
  refine ⟨_, ran, logNumber, state, stemSerial, fusion, fun b => ?_, (congrArg Profile.fused profile :),
    (congrArg Profile.thinTravel profile :), fun j q named order held unfinished => ?_, ⟨shown, shows, done⟩, foreign, own,
    fun h => ⟨offsize.trans (if_pos h), dispute.trans (if_pos h)⟩, settings, capture,
    (congrArg Feed.mode feed :).trans mode, (congrArg Feed.hold feed :).trans hold,
    fun auto => (congrArg Feed.approachOrder feed :).trans (approach auto), (congrArg Saw.state saw :), output, phase, others⟩
  · show z.profile.buckets[b] = none
    rw [profile]
    exact clear_buckets _ b
  · subst named order
    refine final j _ ?_ (by simp) (by simp)
    exact cutUnit_order (queue ▸ held) unfinished

end Sys2Proof.Proofs.CutDone
end

section
/-! PROOFS. The release out of STOPPED (R102, R143, R162, R163). -/

namespace Sys2Proof.Proofs.Release

open Sys2Proof.Machine Sys2Proof.Proofs.Heard Sys2Proof.Proofs.Orders Sys2Proof.Proofs.Stems Sys2Proof.Proofs.Effects

/-! ### What activation and the change of stem state leave of the Safety Unit and the sequencer -/

theorem placeHandshake_stopAsserted (v : State) (f : Frame) :
    (v.placeHandshake f).safety.stopAsserted = v.safety.stopAsserted := by
  unfold State.placeHandshake; split <;> [rfl; split <;> rfl]

@[simp] theorem activate_stopAsserted (v : State) : v.activate.safety.stopAsserted = v.safety.stopAsserted := by
  obtain same | ⟨i, o, -, -, -, -, -, -, eq⟩ := activate_cases v
  · rw [same]
  · rw [eq]
    unfold State.judgePassed
    split
    · exact placeHandshake_stopAsserted ..
    · rfl

/-- A handshake that a change of stem state ends is only one in REQUESTED; the bar flags as delivered stay. -/
theorem enterStem_saw (v : State) (m : StemState) :
    (v.enterStem m).saw.lastHome = v.saw.lastHome ∧ (v.saw.state = .idle → (v.enterStem m).saw.state = .idle) := by
  by_cases ends : m = .noStem ∧ v.saw.state = .requested
  · have saw : (v.enterStem m).saw = v.saw.discard := if_pos ends
    rw [saw]
    exact ⟨rfl, fun _ => rfl⟩
  · have saw : (v.enterStem m).saw = v.saw := if_neg ends
    rw [saw]
    exact ⟨rfl, id⟩

/-! ### The stem unit's part (R102) -/

theorem releaseStem_atMark {v : State} (atMark : v.stem.state = .atMark) :
    v.releaseStem = (v.enterStem .running).activate := by
  unfold State.releaseStem
  rw [atMark]

theorem releaseStem_cutting {v : State} (cutting : v.stem.state = .cutting) :
    v.releaseStem = v.leaveCutting (releasedStem v) := by
  unfold State.releaseStem
  rw [cutting]

theorem releaseStem_other {v : State} (notAtMark : v.stem.state ≠ .atMark) (notCutting : v.stem.state ≠ .cutting) :
    v.releaseStem = v := by
  unfold State.releaseStem
  split
  · next atMark => exact absurd atMark notAtMark
  · next cutting => exact absurd cutting notCutting
  · rfl

theorem releasedStem_topped {v : State} (h : v.stem.returnState = some .topped) : releasedStem v = .topped := by
  unfold releasedStem
  rw [h]

theorem releasedStem_gripped {v : State} (h : v.stem.returnState = some .gripped) :
    releasedStem v = if v.fusion.zeroed then .running else .gripped := by
  unfold releasedStem
  rw [h]

theorem releasedStem_running {v : State} (h : v.stem.returnState = some .running ∨ v.stem.returnState = some .atMark) :
    releasedStem v = .running := by
  unfold releasedStem
  obtain h | h := h <;> rw [h]

/-- What the release keeps whatever the stem state. -/
theorem releaseStem_keeps (v : State) :
    v.releaseStem.settings = v.settings ∧ v.releaseStem.capture = v.capture ∧ v.releaseStem.phase = v.phase ∧
      v.releaseStem.role = v.role ∧ v.releaseStem.now = v.now ∧ v.releaseStem.safety.output = v.safety.output ∧
      v.releaseStem.safety.arming = v.safety.arming ∧ v.releaseStem.safety.stopAsserted = v.safety.stopAsserted ∧
      v.releaseStem.saw.lastHome = v.saw.lastHome ∧ (v.saw.state = .idle → v.releaseStem.saw.state = .idle) := by
  unfold State.releaseStem
  split
  · obtain ⟨lastHome, idle⟩ := enterStem_saw v .running
    refine ⟨?_, ?_, ?_, ?_, ?_, ?_, ?_, ?_, ?_, ?_⟩
    case refine_10 => rwa [State.activate_saw]
    all_goals simp [lastHome]
  · unfold State.leaveCutting
    split
    · have saw := enterStem_saw { v with
        stem.orders := Vector.replicate 12 none
        stem.returnState := none
        stem.closePending := false
        stem.view := none
        stem.offsizeMark := false
        stem.disputeMark := false } .noStem
      exact ⟨rfl, rfl, rfl, rfl, rfl, rfl, rfl, rfl, saw⟩
    · have saw := enterStem_saw { v with stem.returnState := none, stem.view := none } (releasedStem v)
      obtain ⟨lastHome, idle⟩ := saw
      refine ⟨?_, ?_, ?_, ?_, ?_, ?_, ?_, ?_, ?_, ?_⟩
      case refine_10 => rwa [State.activate_saw]
      all_goals simp [lastHome]
  · exact ⟨rfl, rfl, rfl, rfl, rfl, rfl, rfl, rfl, rfl, id⟩

/-! ### The sequencer's part (R143) -/

theorem releaseSaw_keeps (v : State) :
    v.releaseSaw.stem = v.stem ∧ v.releaseSaw.fusion = v.fusion ∧ v.releaseSaw.feed = v.feed ∧
      v.releaseSaw.safety = v.safety ∧ v.releaseSaw.settings = v.settings ∧ v.releaseSaw.capture = v.capture ∧
      v.releaseSaw.phase = v.phase := by
  unfold State.releaseSaw
  split <;> exact ⟨rfl, rfl, rfl, rfl, rfl, rfl, rfl⟩

theorem releaseSaw_out {v : State} (saw : v.role = .saw) (out : v.saw.lastHome = false) :
    v.releaseSaw.saw.state = .ret ∧ v.releaseSaw.saw.record = none ∧
      v.releaseSaw.saw.returnTimer = some (v.now + v.settings.returnTimeout * 1000) := by
  have homing : v.releaseSaw = v.startHoming := if_pos ⟨saw, out⟩
  rw [homing]
  exact ⟨rfl, rfl, rfl⟩

theorem releaseSaw_home {v : State} (home : v.saw.lastHome = true) : v.releaseSaw = v :=
  if_neg fun out => absurd (out.2.symm.trans home) (by decide)

/-! ### The two frames -/

theorem confirmRelease_inTime {v : State} {due : Nat} (armed : v.safety.arming = some due) (inTime : v.now ≤ due) :
    v.confirmRelease =
      (State.releaseStem { v with safety.arming := none, safety.output := .run }).releaseSaw := by
  unfold State.confirmRelease
  rw [armed]
  exact if_pos inTime

/-- The stem after the release (R102): the stem states that the release moves, and those it leaves. -/
theorem releaseStem_stem (v : State) :
    (v.stem.state = .atMark → v.releaseStem.stem.state = .running) ∧
      (v.stem.state = .cutting → v.stem.closePending = true →
        v.releaseStem.stem.state = .noStem ∧ v.releaseStem.fusion.p = 0 ∧
          ∀ k : Fin 12, v.releaseStem.stem.orders[k] = none) ∧
      (v.stem.state = .cutting → v.stem.closePending = false →
        v.releaseStem.stem.returnState = none ∧ v.releaseStem.stem.state = releasedStem v) ∧
      (v.stem.state ≠ .cutting → v.releaseStem.feed = v.feed) ∧
      (v.stem.state ≠ .atMark → v.stem.state ≠ .cutting → v.releaseStem = v) := by
  refine ⟨fun atMark => ?_, fun cutting pending => ?_, fun cutting unclosed => ?_, fun notCutting => ?_, releaseStem_other⟩
  · rw [releaseStem_atMark atMark, State.activate_stem_state]
    rfl
  · rw [releaseStem_cutting cutting, leaveCutting_pending _ pending]
    obtain ⟨state, p, -, empty, -⟩ := closeStem_keeps v
    exact ⟨state, p, empty⟩
  · rw [releaseStem_cutting cutting, leaveCutting_none _ unclosed, activate_stem]
    exact ⟨rfl, rfl⟩
  · by_cases atMark : v.stem.state = .atMark
    · rw [releaseStem_atMark atMark, State.activate_feed]
      rfl
    · rw [releaseStem_other atMark notCutting]

/-- Settles O36: PREPARE by the output state and the line, CONFIRM by the arming and then by the stem state. -/
theorem releaseTakesTwoFrames : Obligations.ReleaseTakesTwoFrames := by
  refine ⟨fun t i s => ?_, fun t i s => ?_⟩
  · intro c
    have ran (hears : s.hearsWorking c) : exec c s = ((s.heard c).prepareRelease i).done :=
      exec_of_hearsWorking (g := fun v => v.prepareRelease i) rfl (fun _ => rfl) hears
    refine ⟨fun hears stopped free => ?_, fun hears stopped asserted => ?_, fun hears run => ?_, fun hears start => ?_⟩
    · have notRun : (s.heard c).safety.output ≠ .run := stopped.trans_ne (by decide)
      have released : ¬ (s.heard c).safety.stopAsserted = true := Bool.eq_false_iff.mp free
      exact (ran hears).trans (congrArg State.done ((if_neg notRun).trans (if_neg released)))
    · have notRun : (s.heard c).safety.output ≠ .run := stopped.trans_ne (by decide)
      exact (ran hears).trans (congrArg State.done ((if_neg notRun).trans (if_pos asserted)))
    · exact (ran hears).trans (congrArg State.done (if_pos run))
    · exact exec_of_hears_start (g := fun v => v.prepareRelease i) rfl (fun _ => rfl) hears start
  · intro c
    have ran (hears : s.hearsWorking c) : exec c s = (s.heard c).confirmRelease.done :=
      exec_of_hearsWorking rfl (fun _ => rfl) hears
    refine ⟨fun hears start => ?_, fun hears unarmed => ?_, fun due hears armed inTime => ?_⟩
    · exact exec_of_hears_start (g := State.confirmRelease) rfl (fun _ => rfl) hears start
    · have unarmed : (s.heard c).safety.arming = none := unarmed
      refine (ran hears).trans (congrArg State.done ?_)
      unfold State.confirmRelease
      rw [unarmed]
    · let w : State := { s.heard c with safety.arming := none, safety.output := .run }
      have ran : exec c s = w.releaseStem.releaseSaw.done :=
        (ran hears).trans (congrArg State.done (confirmRelease_inTime (v := s.heard c) armed inTime))
      obtain ⟨settings, capture, phase, role, now, output, arming, stopAsserted, lastHome, idle⟩ := releaseStem_keeps w
      obtain ⟨atMark, close, leave, feed, other⟩ := releaseStem_stem w
      have out (saw : s.role = .saw) (away : s.saw.lastHome = false) :=
        releaseSaw_out (v := w.releaseStem) (role.trans saw) (lastHome.trans away)
      have home (inPlace : s.saw.lastHome = true) : w.releaseStem.releaseSaw = w.releaseStem :=
        releaseSaw_home (lastHome.trans inPlace)
      obtain ⟨stem', fusion', feed', safety', settings', capture', phase'⟩ := releaseSaw_keeps w.releaseStem
      have topped := releasedStem_topped (v := w)
      have gripped := releasedStem_gripped (v := w)
      have running := releasedStem_running (v := w)
      generalize w.releaseStem.releaseSaw = z at *
      generalize w.releaseStem = y at *
      have feedKept (notCutting : s.stem.state ≠ .cutting) : z.feed = s.feed := feed'.trans (feed notCutting)
      refine ⟨_, ran, (congrArg SafetyUnit.output safety' :).trans output, (congrArg SafetyUnit.arming safety' :).trans arming,
        phase'.trans phase, settings'.trans settings, capture'.trans capture,
        (congrArg SafetyUnit.stopAsserted safety' :).trans stopAsserted, fun mark => ?_, fun cutting pending => ?_,
        fun cutting unclosed => ?_, fun notAtMark notCutting => ?_, fun saw away => ?_, fun saw inPlace isIdle => ?_,
        fun notCutting => ?_, ?_⟩
      · exact (congrArg StemUnit.state stem' :).trans (atMark mark)
      · obtain ⟨state, p, empty⟩ := close cutting pending
        refine ⟨(congrArg StemUnit.state stem' :).trans state, (congrArg Fusion.p fusion' :).trans p, fun k => ?_⟩
        show z.stem.orders[k] = none
        rw [stem']
        exact empty k
      · obtain ⟨returnState, state⟩ := leave cutting unclosed
        have state := (congrArg StemUnit.state stem' :).trans state
        exact ⟨(congrArg StemUnit.returnState stem' :).trans returnState, fun h => state.trans (topped h),
          fun h zeroed => state.trans ((gripped h).trans (if_pos zeroed)),
          fun h unzeroed => state.trans ((gripped h).trans (if_neg (Bool.eq_false_iff.mp unzeroed))),
          fun h => state.trans (running h)⟩
      · have same := other notAtMark notCutting
        exact ⟨stem'.trans (congrArg State.stem same :), (congrArg SafetyUnit.record safety' :).trans
          (congrArg (fun v : State => v.safety.record) same :)⟩
      · obtain ⟨state, record, timer⟩ := out saw away
        rw [now, settings] at timer
        exact ⟨state, record, timer⟩
      · exact (congrArg (fun v : State => v.saw.state) (home inPlace) :).trans (idle isIdle)
      · exact ⟨(congrArg Feed.mode (feedKept notCutting) :), (congrArg Feed.hold (feedKept notCutting) :)⟩
      · by_cases cutting : s.stem.state = .cutting
        · exact (if_pos cutting).symm
        · exact ((congrArg Feed.demand (feedKept cutting) :)).trans (if_neg cutting).symm

end Sys2Proof.Proofs.Release
end

section
/-! PROOFS. Queries and set-up (R27, R33, R168, R169, R173 to R175). -/

namespace Sys2Proof.Proofs.Service

open Sys2Proof.Machine Sys2Proof.Proofs.Heard Sys2Proof.Proofs.SettingItems Sys2Proof.Proofs.SafetyFault
open Sys2Proof.Proofs.Effects

/-! ### Queries (R168, R169) -/

section
variable {c : Instr} {s : State} {i : Ident} {a x : Byte} {item : QueryItem} {content : State → Option (List Byte)}

theorem exec_query (frame : observedFrame c = some ⟨.query, i, [a, byteOf item.code, x]⟩)
    (queries : ∀ v, exec c v = (v.query (Instr.time c) i a item x content).done)
    (addressed : a.toNat = s.identity.val ∨ a.toNat = 255) (hears : s.hears c) :
    exec c s = ((s.heard c).placeAnswer item x (content (s.heard c))).done := by
  have addressed : (s.heard c).addressed a = true := by
    rw [heard_eq frame]
    exact addressed_iff.mpr addressed
  exact (exec_of_hears (g := fun v => if v.addressed a then v.placeAnswer item x (content v) else v) frame queries
    hears).trans (congrArg State.done (if_pos addressed))

/-- A query with an answer fills an empty answer slot and is ignored by an occupied one. -/
theorem query_answered (frame : observedFrame c = some ⟨.query, i, [a, byteOf item.code, x]⟩)
    (queries : ∀ v, exec c v = (v.query (Instr.time c) i a item x content).done)
    (addressed : a.toNat = s.identity.val ∨ a.toNat = 255) {bytes : List Byte} (answer : content (s.heard c) = some bytes)
    (hears : s.hears c) :
    (s.link.answerSlot = none →
      exec c s = .next (State.refresh { s.heard c with link.answerSlot := some ⟨.answer item x bytes, 0⟩ })) ∧
    (s.link.answerSlot ≠ none → exec c s = .next (s.heard c).refresh) := by
  have slot : (s.heard c).link.answerSlot = s.link.answerSlot := by
    rw [heard_eq frame]
    rfl
  have ran := exec_query frame queries addressed hears
  rw [answer] at ran
  refine ⟨fun empty => ran.trans (congrArg State.done ?_), fun occupied => ran.trans (congrArg State.done ?_)⟩
  · unfold State.placeAnswer
    rw [slot.trans empty]
  · unfold State.placeAnswer
    split
    · next empty _ => exact absurd (slot.symm.trans empty) occupied
    · rfl

/-- A query of an index out of range is ignored. -/
theorem query_ignored (frame : observedFrame c = some ⟨.query, i, [a, byteOf item.code, x]⟩)
    (queries : ∀ v, exec c v = (v.query (Instr.time c) i a item x content).done)
    (addressed : a.toNat = s.identity.val ∨ a.toNat = 255) (answer : content (s.heard c) = none) (hears : s.hears c) :
    exec c s = .next (s.heard c).refresh := by
  have ran := exec_query frame queries addressed hears
  rw [answer] at ran
  refine ran.trans (congrArg State.done ?_)
  unfold State.placeAnswer
  split
  · next answered => cases answered
  · rfl

end

section
variable {v : State} {x : Byte}

theorem peerAnswer_of_lt {n : Fin 8} (same : x.toNat = n.val) : v.peerAnswer x = some (peerContent v.peers[n]) := by
  obtain ⟨n, small⟩ := n
  change x.toNat = n at same
  subst same
  exact dif_pos small

theorem orderAnswer_of_lt {n : Fin 12} (same : x.toNat = n.val) : v.orderAnswer x = some (orderContent v.stem.orders[n]) := by
  obtain ⟨n, small⟩ := n
  change x.toNat = n at same
  subst same
  exact dif_pos small

theorem calAnswer_of_lt {n : Fin 8} (same : x.toNat = n.val) :
    v.calAnswer x = some (calBytes v.fusion.staged[n] ++ calBytes v.fusion.working[n]) := by
  obtain ⟨n, small⟩ := n
  change x.toNat = n at same
  subst same
  exact dif_pos small

end

/-- Settles O48: each item by `query_answered`, with the bytes of its content; an index out of range by `query_ignored`. -/
theorem queriesAnswerFromTheState : Obligations.QueriesAnswerFromTheState := by
  intro t i a x s addressed answered ignored number flag cal
  refine ⟨?_, ?_, ?_, fun n same => ?_, fun above => ?_, fun n same => ?_, fun above => ?_, fun n same => ?_,
    fun above => ?_, ?_⟩
  · exact query_answered (content := fun v => some v.stationContent) rfl (fun _ => rfl) addressed rfl
  · exact query_answered (content := fun v => some v.trackContent) rfl (fun _ => rfl) addressed rfl
  · exact query_answered (content := fun v => some v.faultContent) rfl (fun _ => rfl) addressed rfl
  · exact query_answered (content := fun v => v.peerAnswer x) rfl (fun _ => rfl) addressed (peerAnswer_of_lt same)
  · exact query_ignored (content := fun v => v.peerAnswer x) rfl (fun _ => rfl) addressed (dif_neg (Nat.not_lt.mpr above))
  · refine query_answered (content := fun v => v.orderAnswer x) rfl (fun _ => rfl) addressed
      ((orderAnswer_of_lt same).trans (congrArg some ?_))
    show orderContent s.stem.orders[n] = _
    cases s.stem.orders[n] <;> rfl
  · exact query_ignored (content := fun v => v.orderAnswer x) rfl (fun _ => rfl) addressed (dif_neg (Nat.not_lt.mpr above))
  · exact query_answered (content := fun v => v.calAnswer x) rfl (fun _ => rfl) addressed (calAnswer_of_lt same)
  · exact query_ignored (content := fun v => v.calAnswer x) rfl (fun _ => rfl) addressed (dif_neg (Nat.not_lt.mpr above))
  · exact query_answered (content := fun v => some v.linkContent) rfl (fun _ => rfl) addressed rfl

/-! ### Set-up (R173 to R175) -/

theorem put_of_item {σ : Settings} {item v : Nat} (low : 1 ≤ item) (high : item ≤ 43) :
    ∃ lo hi, Settings.range item = some (lo, hi) ∧ σ.put item v = some (σ.set item (max lo (min hi v))) := by
  obtain ⟨⟨lo, hi⟩, range⟩ := Option.isSome_iff_exists.mp ((range_some_iff item).mpr ⟨low, high⟩)
  refine ⟨lo, hi, range, ?_⟩
  unfold Settings.put
  rw [range]
  rfl

theorem put_none {σ : Settings} {item v : Nat} (h : item = 0 ∨ 44 ≤ item) : σ.put item v = none := by
  unfold Settings.put
  rw [range_none h]

/-- What a SETUP does (R27, R173, R175). -/
def setUp (i : Ident) (addressee item : Byte) (value : Word) (v : State) : State :=
  if v.addressed addressee then
    if v.phase = .start then v.storeSetting i item value else v.report .settingRefused (some .setup) (some i)
  else v

/-- What a SETUP END does (R174, R175). -/
def setUpEnd (i : Ident) (v : State) : State :=
  if v.phase = .start then v.enterOperating else v.report .settingRefused (some .setupEnd) (some i)

/-- Placing a frame moves the handshake FIFO and, with a fault, the FAULT NOTICE slot. -/
theorem placeHandshake_link (v : State) (f : Frame) :
    (v.placeHandshake f).link =
      { v.link with
        handshake := (v.placeHandshake f).link.handshake
        faultSlot := (v.placeHandshake f).link.faultSlot } := by
  unfold State.placeHandshake; split <;> [rfl; split <;> rfl]

theorem activate_link (v : State) :
    v.activate.link =
      { v.link with handshake := v.activate.link.handshake, faultSlot := v.activate.link.faultSlot } := by
  obtain same | ⟨i, o, -, -, -, -, -, -, eq⟩ := activate_cases v
  · rw [same]
  · rw [eq]
    unfold State.judgePassed
    split
    · exact placeHandshake_link ..
    · rfl

/-- What a capture of STOP severity leaves of the link, the sequencer and the stem. -/
theorem captureStop_leaves (v : State) (k : FaultKind) (cls : Option FrameClass) (sender : Option Ident) (isLocal : Bool) :
    (v.captureStop k cls sender isLocal).link.keepAlive = v.link.keepAlive ∧
      (v.captureStop k cls sender isLocal).link.announceSlot = v.link.announceSlot ∧
      (v.captureStop k cls sender isLocal).link.repeatMark = v.link.repeatMark ∧
      (v.captureStop k cls sender isLocal).saw.firstDelivery = v.saw.firstDelivery ∧
      (v.captureStop k cls sender isLocal).stem.state = v.stem.state := by
  rw [Shared.captureStop_eq]
  dsimp only
  split
  · unfold State.enterStopped
    rw [activate_link, State.activate_saw, State.activate_stem_state, Shared.stop_eq]
    refine ⟨rfl, rfl, rfl, ?_, rfl⟩
    dsimp only
    split <;> rfl
  · exact ⟨rfl, rfl, rfl, rfl, rfl⟩

/-- The station in OPERATING, before it looks at the stop line (R174). -/
def started (v : State) : State :=
  let w : State := State.callAnnounce { v with phase := .operating }
  { w with
    capture.sampleTimer := some (w.inMs w.settings.samplePeriod)
    fusion.closing := some (w.inMs (3 * w.settings.samplePeriod))
    saw.firstDelivery := decide (w.role = Role.saw) }

theorem enterOperating_eq (v : State) :
    v.enterOperating =
      if (started v).safety.stopAsserted then (started v).captureStop .stopLine none none true else started v := rfl

theorem callAnnounce_keepAlive (v : State) : v.callAnnounce.link.keepAlive = v.link.keepAlive := by
  unfold State.callAnnounce
  split
  · rfl
  · split
    · rfl
    · split <;> rfl
    · rfl

theorem started_keeps (v : State) :
    (started v).phase = .operating ∧ (started v).settings = v.settings ∧
      (started v).capture = { v.capture with sampleTimer := some (v.now + v.settings.samplePeriod * 1000) } ∧
      (started v).fusion = { v.fusion with closing := some (v.now + 3 * v.settings.samplePeriod * 1000) } ∧
      (started v).saw.firstDelivery = decide (v.role = .saw) ∧ (started v).link.keepAlive = v.link.keepAlive ∧
      (started v).safety = v.safety ∧ (started v).stem = v.stem ∧ (started v).profile = v.profile ∧
      (started v).role = v.role ∧ (started v).identity = v.identity := by
  simp [started, State.inMs, ms, callAnnounce_keepAlive]

theorem started_announce_empty {v : State} (empty : v.link.announceSlot = none) :
    (started v).link.announceSlot = some ⟨.announce v.role .operating v.stem.state, 0⟩ :=
  congrArg (fun u : State => u.link.announceSlot)
    (Arbiter.callAnnounce_empty (s := { v with phase := .operating }) nofun empty)

theorem started_announce_unsent {v : State} {r : Role} {m : StemState} {n : Nat}
    (unsent : v.link.announceSlot = some ⟨.announce r .start m, n⟩) :
    (started v).link.announceSlot = v.link.announceSlot ∧ (started v).link.repeatMark = true := by
  have remembered :=
    Arbiter.callAnnounce_remembered (s := { v with phase := .operating }) nofun unsent nofun
  exact ⟨(congrArg (fun u : State => u.link.announceSlot) remembered :),
    (congrArg (fun u : State => u.link.repeatMark) remembered :)⟩

/-- Settles O49: SETUP by the addressee, the phase and the item; SETUP END by the phase, the slot and the stop line. -/
theorem settingsAreStoredUntilSetupEnds : Obligations.SettingsAreStoredUntilSetupEnds := by
  refine ⟨fun t i addressee item value s => ?_, fun t i s => ?_⟩
  · intro c hears ours refused
    have ran : exec c s = (setUp i addressee item value (s.heard c)).done := exec_of_hears rfl (fun _ => rfl) hears
    have taken (own : ours) : setUp i addressee item value (s.heard c) = _ := if_pos (addressed_iff.mpr own)
    refine ⟨fun own start low high => ?_, fun own start outside => ?_, fun own operating => ?_, fun other => ?_⟩
    · obtain ⟨lo, hi, range, put⟩ := put_of_item (σ := s.settings) (v := value.toNat) low high
      have stored : (s.heard c).storeSetting i item value =
          { s.heard c with settings := s.settings.set item.toNat (max lo (min hi value.toNat)) } := by
        have put : (s.heard c).settings.put item.toNat value.toNat = _ := put
        unfold State.storeSetting
        rw [put]
      exact ⟨lo, hi, _, range, ran.trans (congrArg State.done ((taken own).trans ((if_pos start).trans stored))),
        get_set_same _ _ low high, fun k other => get_set_other _ _ low high other, rfl⟩
    · have notStored : (s.heard c).storeSetting i item value = (s.heard c).report .settingRefused (some .setup) (some i) := by
        have put : (s.heard c).settings.put item.toNat value.toNat = none := put_none outside
        unfold State.storeSetting
        rw [put]
      exact ran.trans (congrArg State.done ((taken own).trans ((if_pos start).trans notStored)))
    · exact ran.trans (congrArg State.done ((taken own).trans (if_neg (operating.trans_ne (by decide)))))
    · exact ran.trans (congrArg State.done (if_neg (mt addressed_iff.mp other)))
  · intro c hears
    have ran : exec c s = (setUpEnd i (s.heard c)).done := exec_of_hears rfl (fun _ => rfl) hears
    refine ⟨fun operating => ran.trans (congrArg State.done (if_neg (operating.trans_ne (by decide)))), fun start => ?_⟩
    have ran := ran.trans (congrArg State.done (if_pos start))
    rw [enterOperating_eq] at ran
    obtain ⟨phase, settings, capture, fusion, firstDelivery, keepAlive, safety, stem, profile, role, identity⟩ :=
      started_keeps (s.heard c)
    have empty := started_announce_empty (v := s.heard c)
    have unsent {r m n} := started_announce_unsent (v := s.heard c) (r := r) (m := m) (n := n)
    generalize started (s.heard c) = w at *
    cases asserted : s.safety.stopAsserted with
    | false =>
      have inactive : w.safety.stopAsserted = false := (congrArg SafetyUnit.stopAsserted safety :).trans asserted
      rw [if_neg (Bool.eq_false_iff.mp inactive)] at ran
      exact ⟨_, ran, phase, settings, capture, fusion, firstDelivery, keepAlive, empty, fun r m n => unsent, nofun,
        fun _ => ⟨(congrArg SafetyUnit.output safety :), (congrArg SafetyUnit.record safety :)⟩,
        (congrArg StemUnit.state stem :), profile, role, identity⟩
    | true =>
      have active : w.safety.stopAsserted = true := (congrArg SafetyUnit.stopAsserted safety :).trans asserted
      rw [if_pos active] at ran
      obtain ⟨keepAlive', announceSlot', repeatMark', firstDelivery', state'⟩ :=
        captureStop_leaves w .stopLine none none true
      have phase' := (State.captureStop_phase w .stopLine none none true).trans phase
      have settings' := (State.captureStop_settings w .stopLine none none true).trans settings
      have capture' := (State.captureStop_capture w .stopLine none none true).trans capture
      have fusion' := (State.captureStop_fusion w .stopLine none none true).trans fusion
      have profile' := (State.captureStop_profile w .stopLine none none true).trans profile
      have role' := (State.captureStop_role w .stopLine none none true).trans role
      have identity' := (State.captureStop_identity w .stopLine none none true).trans identity
      have output := Observed.captureStop_output w .stopLine none none true
      have record := Observed.captureStop_record w (k := .stopLine) none none true rfl
      generalize w.captureStop .stopLine none none true = z at *
      refine ⟨_, ran, phase', settings', capture', fusion', firstDelivery'.trans firstDelivery, keepAlive'.trans keepAlive,
        fun none => announceSlot'.trans (empty none), fun r m n held => ?_, fun _ => ⟨output, fun lower => ?_⟩, nofun,
        state'.trans (congrArg StemUnit.state stem :), profile', role', identity'⟩
      · exact ⟨announceSlot'.trans (unsent held).1, repeatMark'.trans (unsent held).2⟩
      · have severity : w.safety.record.severity = s.safety.record.severity :=
          (congrArg (fun u : SafetyUnit => u.record.severity) safety :)
        exact (record (severity.trans_ne lower)).1

end Sys2Proof.Proofs.Service
end

section
/-! PROOFS. The Profile Unit (R49, R78 to R88, R101, R112): the fused diameter, and what a hand-over of travel brings. -/

namespace Sys2Proof.Proofs.Diameter

open Sys2Proof.Machine Sys2Proof.Proofs.Heard Sys2Proof.Proofs.Effects

/-! ### The fused diameter (R78, R79) -/

/-- A source value that is recent and shows this diameter (R78). -/
def RecentAs (σ : Settings) (now : Nat) (x : Option SourceValue) (mm : Nat) : Prop :=
  ∃ v, x = some v ∧ v.mm = mm ∧ now < v.at_ + 3 * σ.samplePeriod * 1000

section
variable {σ : Settings} {now : Nat} {p : Profile} {a b : Nat}

/-- A source without a recent value is empty or old. -/
theorem old_of_not_recent {x : Option SourceValue} (h : ∀ mm, ¬ RecentAs σ now x mm) :
    x = none ∨ ∃ v, x = some v ∧ isRecent σ now v = false := by
  cases x with
  | none => exact .inl rfl
  | some v => exact .inr ⟨v, rfl, decide_eq_false fun recent => h v.mm ⟨v, rfl, rfl, recent⟩⟩

theorem isRecent_of_recentAs {x : Option SourceValue} (h : RecentAs σ now x a) :
    ∃ v, x = some v ∧ v.mm = a ∧ isRecent σ now v = true := by
  obtain ⟨v, held, mm, recent⟩ := h
  exact ⟨v, held, mm, decide_eq_true recent⟩

theorem fusedOf_both (knife : RecentAs σ now p.knife a) (feed : RecentAs σ now p.feed b) :
    fusedOf σ now p = (a + b) / 2 := by
  obtain ⟨k, heldK, rfl, recentK⟩ := isRecent_of_recentAs knife
  obtain ⟨f, heldF, rfl, recentF⟩ := isRecent_of_recentAs feed
  simp [fusedOf, heldK, heldF, recentK, recentF]

theorem fusedOf_knife (knife : RecentAs σ now p.knife a) (feed : ∀ mm, ¬ RecentAs σ now p.feed mm) :
    fusedOf σ now p = a := by
  obtain ⟨k, heldK, rfl, recentK⟩ := isRecent_of_recentAs knife
  obtain heldF | ⟨f, heldF, old⟩ := old_of_not_recent feed
  · simp [fusedOf, heldK, heldF, recentK]
  · simp [fusedOf, heldK, heldF, recentK, old]

theorem fusedOf_feed (knife : ∀ mm, ¬ RecentAs σ now p.knife mm) (feed : RecentAs σ now p.feed b) :
    fusedOf σ now p = b := by
  obtain ⟨f, heldF, rfl, recentF⟩ := isRecent_of_recentAs feed
  obtain heldK | ⟨k, heldK, old⟩ := old_of_not_recent knife
  · simp [fusedOf, heldK, heldF, recentF]
  · simp [fusedOf, heldK, heldF, recentF, old]

theorem fusedOf_neither (knife : ∀ mm, ¬ RecentAs σ now p.knife mm) (feed : ∀ mm, ¬ RecentAs σ now p.feed mm) :
    fusedOf σ now p = p.fused := by
  obtain heldK | ⟨k, heldK, oldK⟩ := old_of_not_recent knife <;>
    obtain heldF | ⟨f, heldF, oldF⟩ := old_of_not_recent feed <;> simp [fusedOf, *]

end

theorem exec_diameter {t : Nat} {i : Ident} {mm : Half} {s : State} (hears : s.hearsWorking (.diameter t i mm)) :
    exec (.diameter t i mm) s =
      ((s.heard (.diameter t i mm)).takeDiameter s.peers[i].role mm).done := by
  have role : (s.heard (.diameter t i mm)).peers[i].role = s.peers[i].role :=
    (congrArg Peer.role (Shared.record_entry s t ⟨.diameter, i, le16 mm⟩)).trans (Peer.heard_role ..)
  rw [← role]
  exact exec_of_hearsWorking (g := fun v => v.takeDiameter v.peers[i].role mm) rfl (fun _ => rfl) hears

theorem diameterAged_old {t : Nat} {src : DiameterSource} {v : SourceValue} {s : State} (operating : s.phase = .operating)
    (held : s.profile.source src = some v) :
    exec (.diameterAged t src) s = (s.clockDue t (v.at_ + ms (3 * s.settings.samplePeriod))).recompute.done := by
  simp only [exec, execDiameterAged, held, operating, if_true]

/-- Settles O33: a frame by the role of its sender, ageing by the source; then the recomputation line by line. -/
theorem diametersAreFused : Obligations.DiametersAreFused := by
  intro t s age recent recomputed
  have recomputes (v : State) (settings : v.settings = s.settings) (fused : v.profile.fused = s.profile.fused)
      (thinTravel : v.profile.thinTravel = s.profile.thinTravel) (buckets : v.profile.buckets = s.profile.buckets)
      (fusion : v.fusion = s.fusion) (stem : v.stem = s.stem) (phase : v.phase = s.phase) (capture : v.capture = s.capture)
      (safety : v.safety = s.safety) :
      recomputed v.recompute.refresh v.now v.profile.knife v.profile.feed := by
    have result : v.recompute.refresh.profile.fused = fusedOf s.settings v.now v.profile := settings ▸ rfl
    refine ⟨rfl, rfl, rfl, fun a b knife feed => result.trans (fusedOf_both knife feed),
      fun a knife feed => result.trans (fusedOf_knife knife feed),
      fun b knife feed => result.trans (fusedOf_feed knife feed),
      fun knife feed => (result.trans (fusedOf_neither knife feed)).trans fused, rfl, ?_, buckets, fusion, stem, settings, phase,
      capture, ?_⟩
    · rw [← settings, ← thinTravel]
      rfl
    · exact congrArg (fun u : SafetyUnit => { u with faultLine := faultLineOf u.record }) safety
  refine ⟨fun i mm hears role => ?_, fun i mm hears role => ?_, fun src v operating held => ?_⟩
  · have ran := exec_diameter hears
    rw [role] at ran
    exact ⟨_, ran, recomputes { s.heard (.diameter t i mm) with profile.knife := some ⟨min 900 mm.toNat, max s.now t⟩ }
      rfl rfl rfl rfl rfl rfl rfl rfl rfl⟩
  · have ran := exec_diameter hears
    rw [role] at ran
    exact ⟨_, ran, recomputes { s.heard (.diameter t i mm) with profile.feed := some ⟨min 900 mm.toNat, max s.now t⟩ }
      rfl rfl rfl rfl rfl rfl rfl rfl rfl⟩
  · exact ⟨_, diameterAged_old operating held, recomputes (s.clockDue t (v.at_ + ms (3 * s.settings.samplePeriod)))
      rfl rfl rfl rfl rfl rfl rfl rfl rfl⟩

end Sys2Proof.Proofs.Diameter
end

section
/-! PROOFS. ROLLER and GATE (R43 to R48, R51, R54, R72, R73, R115, R122): what the Peer Table takes from the frames that carry
totals, and what the deliveries bring. -/

namespace Sys2Proof.Proofs.Measured

open Sys2Proof.Machine Sys2Proof.Proofs.Heard Sys2Proof.Proofs.Effects Sys2Proof.Proofs.Hearing

/-! ### A heard frame of any class -/

section
variable {c : Instr} {f : RawFrame} {s : State} {rest : Peer → State → State}

/-- A heard frame goes on with the state that has recorded it, in which its sender passes the role filter. -/
theorem exec_of_observes (frame : observedFrame c = some f)
    (observes : ∀ v, exec c v = (v.observe (Instr.time c) f rest).done) (hears : s.hears c) :
    exec c s = (rest s.peers[f.sender] (s.heard c)).done ∧ (s.heard c).roleFilter f.cls f.sender = true := by
  rw [heard_eq frame]
  unfold State.hears at hears
  rw [frame] at hears
  obtain ⟨awake, own, role⟩ := hears
  exact ⟨(observes s).trans (congrArg State.done (observe_recorded awake own)), (State.record_roleFilter ..).trans role⟩

end

/-! ### Missed frames (R46) -/

theorem seqSkipped_eq (known : Option Byte) (seq : Byte) :
    seqSkipped known seq =
      match known with
      | some k => (seq - k).toNat - 1
      | none => 0 := by
  cases known <;> rfl

/-- The station that has stored an entry, with the missed frames counted and told (R46). -/
def gapped (b : State) (cls : FrameClass) (i : Ident) (q : Peer) (missed : Nat) : State :=
  if missed = 0 then { b with peers := b.peers.set i q }
  else
    State.report { b with peers := b.peers.set i { q with gapCount := min 255 (q.gapCount + missed) } } .seqGap
      (some cls) (some i)

section
variable (b : State) (cls : FrameClass) (i : Ident) (q : Peer) (missed : Nat)

theorem countGap_eq : (b.setPeer i q).countGap cls i missed = gapped b cls i q missed := by
  have stored : (b.peers.set i q)[i] = q := by simp
  have twice (p : Peer) : (b.peers.set i q).set i p = b.peers.set i p := by simp
  unfold State.countGap gapped
  refine if_congr Iff.rfl rfl ?_
  have missing : (b.setPeer i q).setPeer i { (b.setPeer i q).peers[i] with
      gapCount := satAdd (b.setPeer i q).peers[i].gapCount missed } =
      { b with peers := b.peers.set i { q with gapCount := min 255 (q.gapCount + missed) } } := by
    unfold State.setPeer
    rw [stored, twice]
    rfl
  rw [missing]

theorem gapped_keeps :
    (gapped b cls i q missed).fusion = b.fusion ∧ (gapped b cls i q missed).feed = b.feed ∧
      (gapped b cls i q missed).phase = b.phase ∧ (gapped b cls i q missed).role = b.role ∧
      (gapped b cls i q missed).identity = b.identity ∧ (gapped b cls i q missed).stem = b.stem ∧
      (gapped b cls i q missed).settings = b.settings ∧ (gapped b cls i q missed).profile = b.profile ∧
      (gapped b cls i q missed).now = b.now := by
  unfold gapped
  split <;> exact ⟨rfl, rfl, rfl, rfl, rfl, rfl, rfl, rfl, rfl⟩

end

/-! ### ROLLER (R44 to R46, R51, R54, R115, R122) -/

section
variable {v : State} {i : Ident}

/-- The deltas of a ROLLER frame go to the accumulator in OPERATING (R54). -/
def arrived (v : State) (d : Option (Int × Int)) : State :=
  match d with
  | some (l, r) => if v.phase = .operating then { v with fusion := v.fusion.arrive l r } else v
  | none => v

/-- The own stopped count after a delivery (R115). -/
def counted (v : State) (still : Bool) : State :=
  { v with feed.stoppedCount := if still then min 2 (v.feed.stoppedCount + 1) else 0 }

theorem arrived_keeps (v : State) (d : Option (Int × Int)) :
    (arrived v d).feed = v.feed ∧ (arrived v d).phase = v.phase ∧ (arrived v d).role = v.role ∧
      (arrived v d).identity = v.identity ∧ (arrived v d).stem = v.stem := by
  unfold arrived
  split
  · split <;> exact ⟨rfl, rfl, rfl, rfl, rfl⟩
  · exact ⟨rfl, rfl, rfl, rfl, rfl⟩

theorem deliverRoller_foreign {d : Option (Int × Int)} (other : ¬ (v.phase = .operating ∧ v.role = .feed ∧ i = v.identity)) :
    v.deliverRoller i d = arrived v d := by
  obtain ⟨-, phase, role, identity, -⟩ := arrived_keeps v d
  have delivered : v.deliverRoller i d =
      if i = (arrived v d).identity then (arrived v d).feedRoller (decide (d = some (0, 0))) else arrived v d := rfl
  rw [delivered]
  split
  · next own =>
    refine if_neg fun ⟨feed, operating⟩ => other ?_
    exact ⟨phase.symm.trans operating, role.symm.trans feed, own.trans identity⟩
  · rfl

theorem deliverRoller_own {d : Option (Int × Int)} (own : v.phase = .operating ∧ v.role = .feed ∧ i = v.identity) :
    v.deliverRoller i d = (counted (arrived v d) (decide (d = some (0, 0)))).grantIfStopped := by
  obtain ⟨-, phase, role, identity, -⟩ := arrived_keeps v d
  obtain ⟨operating, feed, same⟩ := own
  have delivered : v.deliverRoller i d =
      if i = (arrived v d).identity then (arrived v d).feedRoller (decide (d = some (0, 0))) else arrived v d := rfl
  rw [delivered, if_pos (same.trans identity.symm)]
  exact if_pos ⟨role.trans feed, phase.trans operating⟩

theorem grantIfStopped_none (h : v.feed.hold ≠ .yielding ∨ v.feed.holdRecord = none ∨ v.feed.stoppedCount ≠ 2) :
    v.grantIfStopped = v := by
  unfold State.grantIfStopped
  split
  · next r yielding record =>
    obtain other | empty | moving := h
    · exact absurd yielding other
    · rw [record] at empty
      cases empty
    · exact if_neg moving
  · rfl

theorem grantIfStopped_stopped {r : HoldRecord} (yielding : v.feed.hold = .yielding) (record : v.feed.holdRecord = some r)
    (still : v.feed.stoppedCount = 2) :
    v.grantIfStopped =
      State.placeHandshake { v with feed.hold := .held } (.holdGrant v.stem.serial r.kind r.index) := by
  unfold State.grantIfStopped
  rw [yielding, record]
  exact if_pos still

theorem takeRoller_baseline {seq : Byte} {left right : Word} (due : v.peers[i].baselinePending = true) :
    v.takeRoller i seq left right =
      (v.setPeer i { v.peers[i] with
        leftTotal := left, rightTotal := right, rollerSeq := some seq, baselinePending := false }, none) := if_pos due

theorem takeRoller_delta {seq : Byte} {left right : Word} (based : v.peers[i].baselinePending = false) :
    v.takeRoller i seq left right =
      (gapped v .roller i { v.peers[i] with
        leftTotal := left, rightTotal := right, rollerSeq := some seq, baselinePending := false }
        (seqSkipped v.peers[i].rollerSeq seq),
      some ((left - v.peers[i].leftTotal).toInt, (right - v.peers[i].rightTotal).toInt)) := by
  rw [← countGap_eq]
  exact if_neg (Bool.eq_false_iff.mp based)

end

theorem exec_roller {t : Nat} {i : Ident} {seq : Byte} {left right : Word} {s : State}
    (hears : s.hears (.roller t i seq left right)) :
    exec (.roller t i seq left right) s =
      (((s.heard (.roller t i seq left right)).takeRoller i seq left right).1.deliverRoller i
        ((s.heard (.roller t i seq left right)).takeRoller i seq left right).2).done := by
  have ran := exec_of_observes (rest := fun _ v =>
    if publishes v.peers[i] .feed then (v.takeRoller i seq left right).1.deliverRoller i (v.takeRoller i seq left right).2
    else v) rfl (fun _ => rfl) hears
  obtain ⟨ran, passes⟩ := ran
  exact ran.trans (congrArg State.done (if_pos ((publishes_feed ..).trans passes)))

/-- Settles O28: a baseline or deltas are stored; the delivery reaches the Feed Controller where the frame is its own. -/
theorem rollersAccumulate : Obligations.RollersAccumulate := by
  intro t i seq left right s c hears b p q missed gap dl dr working arrive own count count'
  have skipped : seqSkipped p.rollerSeq seq = missed := seqSkipped_eq _ _
  have ran : exec c s = ((b.takeRoller i seq left right).1.deliverRoller i (b.takeRoller i seq left right).2).done :=
    exec_roller hears
  have kept : gap.fusion = s.fusion ∧ gap.feed = s.feed ∧ gap.phase = s.phase ∧ gap.role = s.role ∧
      gap.identity = s.identity ∧ gap.stem = s.stem := by
    by_cases plain : p.baselinePending = true ∨ missed = 0
    · have stored : gap = _ := if_pos plain
      rw [stored]
      exact ⟨rfl, rfl, rfl, rfl, rfl, rfl⟩
    · have told : gap = _ := if_neg plain
      rw [told]
      exact ⟨rfl, rfl, rfl, rfl, rfl, rfl⟩
  obtain ⟨fusion, feed, phase, role, identity, stem⟩ := kept
  have taken : ∃ d, b.takeRoller i seq left right = (gap, d) ∧ arrived gap d = arrive ∧
      (decide (d = some (0, 0)) = true ↔ p.baselinePending = false ∧ dl = 0 ∧ dr = 0) := by
    by_cases due : p.baselinePending = true
    · refine ⟨none, (takeRoller_baseline due).trans (congrArg (·, none) (if_pos (.inl due)).symm), ?_, ?_⟩
      · exact (if_neg fun both => absurd (due.symm.trans both.2) (by decide)).symm
      · simp [due]
    · have based := Bool.eq_false_iff.mpr due
      have plain : gapped b .roller i q missed = gap := if_congr (or_iff_right due).symm rfl rfl
      refine ⟨some (dl, dr), (takeRoller_delta based).trans ?_, ?_, ?_⟩
      · rw [← plain, ← skipped]
      · have added : ({ gap with fusion := gap.fusion.arrive dl dr } : State) =
            { gap with
              fusion.leftSum := s.fusion.leftSum + dl
              fusion.rightSum := s.fusion.rightSum + dr
              fusion.frames := min 255 (s.fusion.frames + 1) } := by
          rw [Fusion.arrive, fusion]
          rfl
        refine if_congr ?_ added rfl
        rw [phase]
        exact (and_iff_left based).symm
      · simp [based]
  obtain ⟨d, taken, delivered, still⟩ := taken
  rw [taken] at ran
  dsimp only at ran
  have ownGap : (gap.phase = .operating ∧ gap.role = .feed ∧ i = gap.identity) ↔ own := by
    rw [phase, role, identity]
  obtain ⟨feed', -, -, -, stem'⟩ := arrived_keeps gap d
  rw [delivered] at feed' stem'
  have result (mine : own) : exec c s = count'.grantIfStopped.done := by
    refine ran.trans (congrArg State.done ((deliverRoller_own (ownGap.mpr mine)).trans (congrArg State.grantIfStopped ?_)))
    rw [delivered]
    have number : (if decide (d = some (0, 0)) then min 2 (arrive.feed.stoppedCount + 1) else 0) = count := by
      rw [feed', feed]
      exact if_congr still rfl rfl
    exact congrArg (fun n => { arrive with feed.stoppedCount := n }) number
  refine ⟨fun foreign => ?_, fun mine stays => ?_, fun mine r yielding record two => ?_⟩
  · exact ran.trans (congrArg State.done ((deliverRoller_foreign (mt ownGap.mp foreign)).trans delivered))
  · have hold : count'.feed.hold = s.feed.hold := (congrArg Feed.hold feed' :).trans (congrArg Feed.hold feed :)
    have record : count'.feed.holdRecord = s.feed.holdRecord :=
      (congrArg Feed.holdRecord feed' :).trans (congrArg Feed.holdRecord feed :)
    rw [← hold, ← record] at stays
    exact (result mine).trans (congrArg State.done (grantIfStopped_none stays))
  · have yielding : count'.feed.hold = .yielding :=
      ((congrArg Feed.hold feed' :).trans (congrArg Feed.hold feed :)).trans yielding
    have record : count'.feed.holdRecord = some r :=
      ((congrArg Feed.holdRecord feed' :).trans (congrArg Feed.holdRecord feed :)).trans record
    have stemSerial : count'.stem.serial = s.stem.serial :=
      (congrArg StemUnit.serial stem' :).trans (congrArg StemUnit.serial stem :)
    refine (result mine).trans (congrArg State.done ((grantIfStopped_stopped yielding record two).trans ?_))
    rw [stemSerial]

/-! ### GATE (R46, R48, R53, R72, R73) -/

/-- What a GATE delivery does, with the edge offset it brings (R51, R72). -/
def delivered (v : State) (i : Ident) (d : Option Int) : State :=
  match d with
  | some offset => v.inOperating fun v => v.correctGate i offset
  | none => v

theorem exec_gate {t : Nat} {i : Ident} {seq : Byte} {total : Word} {s : State} (hears : s.hears (.gate t i seq total)) :
    exec (.gate t i seq total) s =
      (delivered ((s.heard (.gate t i seq total)).takeGate i seq total).1 i
        ((s.heard (.gate t i seq total)).takeGate i seq total).2).done := by
  have ran := exec_of_observes (rest := fun _ v =>
    if publishes v.peers[i] .measure then delivered (v.takeGate i seq total).1 i (v.takeGate i seq total).2 else v) rfl
    (fun _ => rfl) hears
  obtain ⟨ran, passes⟩ := ran
  exact ran.trans (congrArg State.done (if_pos ((publishes_measure ..).2.trans passes)))

section
variable {v : State} {i : Ident} {offset change : Int}

theorem live_iff (v : State) :
    v.live = true ↔ v.fusion.zeroed = true ∧ v.stem.state ≠ .noStem ∧ v.stem.state ≠ .gripped := by
  simp [State.live, and_assoc]

theorem moveP_within {cls : Option FrameClass} {sender : Option Ident}
    (within : -1000000 ≤ v.fusion.p + change ∧ v.fusion.p + change ≤ 40000000) :
    v.moveP change cls sender = { v with fusion.p := max (-1000000) (min 40000000 (v.fusion.p + change)) } := by
  rw [← clampInt_eq _ (by decide)]
  refine if_neg ?_
  rintro (below | above)
  · exact absurd within.1 (Int.not_le.mpr below)
  · exact absurd within.2 (Int.not_le.mpr above)

theorem moveP_clamped {cls : Option FrameClass} {sender : Option Ident}
    (beyond : v.fusion.p + change < -1000000 ∨ 40000000 < v.fusion.p + change) :
    v.moveP change cls sender =
      State.report { v with fusion.p := max (-1000000) (min 40000000 (v.fusion.p + change)) } .positionClamped cls
        sender := by
  rw [← clampInt_eq _ (by decide)]
  exact if_pos beyond

/-- The error of the estimate at the edge (R72). -/
def gateError (v : State) (offset : Int) : Int :=
  (v.settings.gateOffset : Int) * 1000 - (v.fusion.p - v.fusion.credit + v.wheelDistance offset)

theorem correctGate_ignored (h : ¬ (v.live = true ∧ v.fusion.gateUsed = false)) : v.correctGate i offset = v := if_neg h

theorem correctGate_implausible (h : v.live = true ∧ v.fusion.gateUsed = false)
    (far : v.settings.gateWindow * 1000 < (gateError v offset).natAbs) :
    v.correctGate i offset =
      { v.report .gateImplausible (some .gate) (some i) with fusion.gateUsed := true } :=
  (if_pos h).trans (congrArg (fun u : State => { u with fusion.gateUsed := true }) (if_neg (Nat.not_le.mpr far)))

theorem correctGate_plausible (h : v.live = true ∧ v.fusion.gateUsed = false)
    (near : (gateError v offset).natAbs ≤ v.settings.gateWindow * 1000) :
    v.correctGate i offset =
      { v.moveP (gateError v offset) (some .gate) (some i) with fusion.gateUsed := true } :=
  (if_pos h).trans (congrArg (fun u : State => { u with fusion.gateUsed := true }) (if_pos near))

end

/-- Settles O29: the sequence number is stored, and the correction follows the window and the range of P. -/
theorem gateCorrectsTheTrackOnce : Obligations.GateCorrectsTheTrackOnce := by
  intro t i seq total s c hears b p q missed gap n w0 w e sum taken marked moved
  have skipped : seqSkipped p.gateSeq seq = missed := seqSkipped_eq _ _
  have plain : (b.takeGate i seq total).1 = gap :=
    (countGap_eq b .gate i q (seqSkipped p.gateSeq seq)).trans (skipped ▸ rfl)
  have ran : exec c s = (delivered (b.takeGate i seq total).1 i (b.takeGate i seq total).2).done := exec_gate hears
  rw [plain] at ran
  have kept : gap = gapped b .gate i q missed := rfl
  obtain ⟨fusion, -, phase, -, -, stem, settings, profile, -⟩ := gapped_keeps b .gate i q missed
  rw [← kept] at fusion phase stem settings profile
  have edge (based : p.baselinePending = false) : (b.takeGate i seq total).2 = some n := if_neg (Bool.eq_false_iff.mp based)
  have error : gateError gap n = e := by
    rw [gateError, State.wheelDistance, fusion, settings, profile]
    rfl
  have ready : (gap.live = true ∧ gap.fusion.gateUsed = false) ↔
      (s.fusion.zeroed = true ∧ s.stem.state ≠ .noStem ∧ s.stem.state ≠ .gripped) ∧ s.fusion.gateUsed = false := by
    rw [live_iff, fusion, stem]
    exact Iff.rfl
  have corrects (h : taken) : exec c s = (gap.correctGate i n).done := by
    obtain ⟨operating, -, -, -, -, based⟩ := h
    rw [edge based] at ran
    exact ran.trans (congrArg State.done (if_pos (phase.trans operating)))
  have isReady (h : taken) : gap.live = true ∧ gap.fusion.gateUsed = false := by
    obtain ⟨-, zeroed, opened, ungripped, unused, -⟩ := h
    exact ready.mpr ⟨⟨zeroed, opened, ungripped⟩, unused⟩
  have place : gap.fusion.p + gateError gap n = sum :=
    congrArg₂ (· + ·) (congrArg Fusion.p fusion) error
  have window : gap.settings.gateWindow = s.settings.gateWindow := congrArg Settings.gateWindow settings
  refine ⟨fun idle => ?_, fun h far => ?_, fun h near low high => ?_, fun h near beyond => ?_⟩
  · refine ran.trans (congrArg State.done ?_)
    by_cases based : p.baselinePending = false
    · rw [edge based]
      show gap.inOperating _ = gap
      unfold State.inOperating
      split
      · next operating =>
        refine correctGate_ignored fun both => idle ?_
        obtain ⟨⟨zeroed, opened, ungripped⟩, unused⟩ := ready.mp both
        exact ⟨phase.symm.trans operating, zeroed, opened, ungripped, unused, based⟩
      · rfl
    · have none : (b.takeGate i seq total).2 = none := if_pos (Bool.not_eq_false _ ▸ based)
      rw [none]
      rfl
  · refine (corrects h).trans (congrArg State.done (correctGate_implausible (isReady h) ?_))
    rw [error, window]
    exact far
  · refine (corrects h).trans (congrArg State.done ((correctGate_plausible (isReady h) (by rwa [error, window])).trans ?_))
    rw [moveP_within (by rw [place]; exact ⟨low, high⟩), place]
  · refine (corrects h).trans (congrArg State.done ((correctGate_plausible (isReady h) (by rwa [error, window])).trans ?_))
    rw [moveP_clamped (by rw [place]; exact beyond), place]

end Sys2Proof.Proofs.Measured
end

section
/-! PROOFS. The close of an interval (R53, R62 to R71): what a close makes of the track, once for MOTION and for the closing
timer. -/

namespace Sys2Proof.Proofs.Interval

open Sys2Proof.Machine Sys2Proof.Proofs.Heard Sys2Proof.Proofs.Effects Sys2Proof.Proofs.Measured

/-! ### The chosen distance (R52, R53, R66) -/

/-- P after a chosen distance (R52, R53). -/
def movedTo (v : State) (chosen : Int) : Int :=
  if v.live then max (-1000000) (min 40000000 (v.fusion.p + chosen)) else v.fusion.p

/-- The station that has moved P and told a clamp (R53). -/
def clamped (v : State) (chosen : Int) (cls : Option FrameClass) (sender : Option Ident) : State :=
  if v.live = true ∧ (v.fusion.p + chosen < -1000000 ∨ 40000000 < v.fusion.p + chosen) then
    State.report { v with fusion.p := movedTo v chosen } .positionClamped cls sender
  else { v with fusion.p := movedTo v chosen }

/-- The station that has handed the change of P to the Profile Unit (R66). -/
def handed (v : State) (chosen : Int) (cls : Option FrameClass) (sender : Option Ident) : State :=
  (clamped v chosen cls sender).handOver (movedTo v chosen - v.fusion.p)

/-! ### The hand-over (R82, R83, R86, R88, R101) -/

/-- Forward travel counts as thin (R86). -/
def Thin (v : State) : Prop :=
  v.stem.state = .running ∧ v.fusion.zeroed = true ∧ v.profile.fused < v.settings.topDiameter

/-- The station whose empty buckets at or below P are filled (R82). -/
def filled (v : State) : State :=
  { v with profile.buckets := fillBuckets v.profile.buckets v.fusion.p v.profile.fused }

/-- The station that has counted thin travel as well (R86). -/
def thinned (v : State) (change : Int) : State :=
  { filled v with profile.thinTravel := v.profile.thinTravel + change.toNat }

section
variable {v : State} {change : Int}

theorem handOver_back (back : ¬ 0 < change) : v.handOver change = v := if_neg back

theorem handOver_thick (forward : 0 < change) (thick : ¬ Thin v) : v.handOver change = filled v :=
  (if_pos forward).trans (if_neg thick)

theorem handOver_thin (forward : 0 < change) (thin : Thin v)
    (below : ¬ v.settings.topTravel * 1000 ≤ v.profile.thinTravel + change.toNat) :
    v.handOver change = thinned v change := (if_pos forward).trans ((if_pos thin).trans (if_neg below))

theorem handOver_top (forward : 0 < change) (thin : Thin v)
    (top : v.settings.topTravel * 1000 ≤ v.profile.thinTravel + change.toNat) :
    v.handOver change = (thinned v change).reportTop := (if_pos forward).trans ((if_pos thin).trans (if_pos top))

end

section
variable (v : State) (chosen : Int) (cls : Option FrameClass) (sender : Option Ident)

theorem handOver_zero : v.handOver 0 = v := handOver_back (Int.lt_irrefl 0)

theorem clamped_beyond (beyond : v.live = true ∧ (v.fusion.p + chosen < -1000000 ∨ 40000000 < v.fusion.p + chosen)) :
    clamped v chosen cls sender = State.report { v with fusion.p := movedTo v chosen } .positionClamped cls sender :=
  if_pos beyond

theorem clamped_within (within : ¬ (v.live = true ∧ (v.fusion.p + chosen < -1000000 ∨ 40000000 < v.fusion.p + chosen))) :
    clamped v chosen cls sender = { v with fusion.p := movedTo v chosen } :=
  if_neg within

theorem applyChosen_eq : v.applyChosen chosen cls sender = handed v chosen cls sender := by
  unfold handed
  by_cases live : v.live = true
  · have place : movedTo v chosen = max (-1000000) (min 40000000 (v.fusion.p + chosen)) := if_pos live
    have applied : v.applyChosen chosen cls sender =
        (v.moveP chosen cls sender).handOver ((v.moveP chosen cls sender).fusion.p - v.fusion.p) := if_pos live
    rw [applied]
    by_cases beyond : v.fusion.p + chosen < -1000000 ∨ 40000000 < v.fusion.p + chosen
    · rw [moveP_clamped beyond, clamped_beyond _ _ _ _ ⟨live, beyond⟩, place]
      rfl
    · obtain ⟨low, high⟩ := not_or.mp beyond
      rw [moveP_within ⟨Int.not_lt.mp low, Int.not_lt.mp high⟩, clamped_within _ _ _ _ fun both => beyond both.2, place]
  · have place : movedTo v chosen = v.fusion.p := if_neg live
    have kept : v.applyChosen chosen cls sender = v := if_neg live
    rw [kept, clamped_within _ _ _ _ fun both => live both.1, place, Int.sub_self, handOver_zero]

/-- The Profile Unit takes no notice of the comparison ring. -/
theorem handOver_ring (ring : List RingEntry) (change : Int) :
    State.handOver { v with fusion.ring := ring } change = { v.handOver change with fusion.ring := ring } := by
  by_cases forward : 0 < change
  · by_cases thin : Thin v
    · by_cases top : v.settings.topTravel * 1000 ≤ v.profile.thinTravel + change.toNat
      · rw [handOver_top forward thin top]
        exact handOver_top (v := { v with fusion.ring := ring }) forward thin top
      · rw [handOver_thin forward thin top]
        exact handOver_thin (v := { v with fusion.ring := ring }) forward thin top
    · rw [handOver_thick forward thin]
      exact handOver_thick (v := { v with fusion.ring := ring }) forward thin
  · rw [handOver_back forward, handOver_back forward]

theorem handed_ring (ring : List RingEntry) :
    handed { v with fusion.ring := ring } chosen cls sender =
      { handed v chosen cls sender with fusion.ring := ring } := by
  have moved : clamped { v with fusion.ring := ring } chosen cls sender =
      { clamped v chosen cls sender with fusion.ring := ring } := by
    by_cases beyond : v.live = true ∧ (v.fusion.p + chosen < -1000000 ∨ 40000000 < v.fusion.p + chosen)
    · rw [clamped_beyond v _ _ _ beyond]
      exact clamped_beyond { v with fusion.ring := ring } _ _ _ beyond
    · rw [clamped_within v _ _ _ beyond]
      exact clamped_within { v with fusion.ring := ring } _ _ _ beyond
  exact (congrArg (State.handOver · (movedTo v chosen - v.fusion.p)) moved).trans (handOver_ring ..)

/-- What a hand-over leaves: it moves the profile, and at the top the stem, the feed mode and the stem timers. -/
theorem handOver_keeps (change : Int) :
    (v.handOver change).fusion = v.fusion ∧ (v.handOver change).settings = v.settings ∧
      (v.handOver change).now = v.now ∧ (v.handOver change).link = v.link ∧ (v.handOver change).peers = v.peers ∧
      (v.handOver change).safety = v.safety ∧ (v.handOver change).live = v.live := by
  by_cases forward : 0 < change
  · by_cases thin : Thin v
    · by_cases top : v.settings.topTravel * 1000 ≤ v.profile.thinTravel + change.toNat
      · rw [handOver_top forward thin top]
        obtain ⟨running, -, -⟩ := thin
        simp [State.reportTop, State.enterStem, State.live, thinned, filled, running]
      · simp [handOver_thin forward thin top, State.live, thinned, filled]
    · simp [handOver_thick forward thin, State.live, filled]
  · rw [handOver_back forward]
    exact ⟨rfl, rfl, rfl, rfl, rfl, rfl, rfl⟩

theorem clamped_keeps :
    (clamped v chosen cls sender).fusion = { v.fusion with p := movedTo v chosen } ∧
      (clamped v chosen cls sender).settings = v.settings ∧ (clamped v chosen cls sender).now = v.now ∧
      (clamped v chosen cls sender).live = v.live ∧ (clamped v chosen cls sender).stem = v.stem ∧
      (clamped v chosen cls sender).profile = v.profile ∧ (clamped v chosen cls sender).feed = v.feed := by
  unfold clamped
  split <;> exact ⟨rfl, rfl, rfl, rfl, rfl, rfl, rfl⟩

theorem handed_keeps :
    (handed v chosen cls sender).fusion = { v.fusion with p := movedTo v chosen } ∧
      (handed v chosen cls sender).settings = v.settings ∧ (handed v chosen cls sender).now = v.now ∧
      (handed v chosen cls sender).live = v.live := by
  obtain ⟨fusion, settings, now, live, -⟩ := clamped_keeps v chosen cls sender
  obtain ⟨fusion', settings', now', -, -, -, live'⟩ :=
    handOver_keeps (clamped v chosen cls sender) (movedTo v chosen - v.fusion.p)
  exact ⟨fusion'.trans fusion, settings'.trans settings, now'.trans now, live'.trans live⟩

/-! ### The counts and the end of a close (R54, R62, R67 to R69) -/

/-- The non-wheel run after a close (R67, R69). -/
def runAfter (v : State) (verdict : Verdict) : Nat :=
  if isNonWheel verdict then min 255 (v.fusion.nonWheelRun + 1) else 0

/-- Whether a close tells TRACK DEGRADED (R67). -/
def tells (v : State) (verdict : Verdict) : Bool :=
  decide (16 ≤ runAfter v verdict) && v.live && !v.fusion.degradedReported

/-- The station after a close but for the Length Fusion Unit: handed over, and TRACK DEGRADED told where it is due. -/
def told (v : State) (verdict : Verdict) (chosen : Int) (cls : Option FrameClass) (sender : Option Ident) : State :=
  if tells v verdict then (handed v chosen cls sender).report .trackDegraded cls sender else handed v chosen cls sender

/-- The Length Fusion Unit after a close that is not EMPTY. -/
def fusionAfter (v : State) (verdict : Verdict) (chosen : Int) (ring : List RingEntry) (credit : Int) : Fusion :=
  { v.fusion with
    p := movedTo v chosen
    leftSum := 0
    rightSum := 0
    frames := 0
    credit := credit
    ring := ring
    closing := some (v.now + 3 * v.settings.samplePeriod * 1000)
    verdict := verdict
    nonWheelRun := runAfter v verdict
    degradedReported := isNonWheel verdict && (v.fusion.degradedReported || tells v verdict)
    emptyRun := 0
    logIntervals := min 255 (v.fusion.logIntervals + 1)
    logNonWheel := if isNonWheel verdict then min 255 (v.fusion.logNonWheel + 1) else v.fusion.logNonWheel }

/-- A capture reads P and nothing else of the Length Fusion Unit. -/
theorem report_fusion {f : Fusion} (k : FaultKind) (same : f.p = v.fusion.p) :
    State.report { v with fusion := f } k cls sender = { v.report k cls sender with fusion := f } := by
  have fields : State.captureFields { v with fusion := f } k cls sender = v.captureFields k cls sender :=
    congrArg (fun p => { v.captureFields k cls sender with p := p }) same
  unfold State.report
  rw [fields]

/-- The counts of a close on the station that has been handed the change. -/
def countsOf (v : State) (verdict : Verdict) (chosen : Int) (ring : List RingEntry) (credit : Int) : Fusion :=
  Fusion.countClose { v.fusion with p := movedTo v chosen, ring := ring, credit := credit } verdict

theorem reportDegraded_eq (verdict : Verdict) (ring : List RingEntry) (credit : Int) :
    State.reportDegraded
        { handed v chosen cls sender with fusion := countsOf v verdict chosen ring credit } cls sender =
      { told v verdict chosen cls sender with
        fusion := { countsOf v verdict chosen ring credit with
          degradedReported := isNonWheel verdict && (v.fusion.degradedReported || tells v verdict) } } := by
  obtain ⟨fusion, -, -, live⟩ := handed_keeps v chosen cls sender
  have liveAfter : State.live { handed v chosen cls sender with fusion := countsOf v verdict chosen ring credit } = v.live := by
    rw [← live]
    unfold State.live
    rw [fusion]
    rfl
  have due : (Config.degradedRun ≤ (countsOf v verdict chosen ring credit).nonWheelRun ∧
      State.live { handed v chosen cls sender with fusion := countsOf v verdict chosen ring credit } = true ∧
      (countsOf v verdict chosen ring credit).degradedReported = false) ↔ tells v verdict = true := by
    rw [liveAfter]
    unfold tells runAfter countsOf Fusion.countClose
    cases isNonWheel verdict <;> simp [Config.degradedRun, satAdd, and_assoc]
  have counted : (countsOf v verdict chosen ring credit).degradedReported =
      (isNonWheel verdict && v.fusion.degradedReported) := by
    unfold countsOf Fusion.countClose
    cases isNonWheel verdict <;> rfl
  have place : (countsOf v verdict chosen ring credit).p = (handed v chosen cls sender).fusion.p := by
    rw [fusion]
    rfl
  by_cases tell : tells v verdict = true
  · have nonWheel : isNonWheel verdict = true := by
      by_contra wheel
      simp [tells, runAfter, wheel] at tell
    rw [told, if_pos tell, tell, nonWheel, Bool.or_true, Bool.and_true]
    refine (if_pos (due.mpr tell)).trans ?_
    rw [report_fusion _ cls sender .trackDegraded place]
  · rw [told, if_neg tell, Bool.eq_false_iff.mpr tell, Bool.or_false, ← counted]
    exact if_neg (mt due.mp tell)

/-- The station whose track has been moved and counted, by the operations of the model. -/
theorem counted_eq (verdict : Verdict) (ring : List RingEntry) (credit : Int) :
    ({ State.applyChosen { v with fusion.ring := ring } chosen cls sender with
      fusion := Fusion.countClose
        { (State.applyChosen { v with fusion.ring := ring } chosen cls sender).fusion with credit := credit } verdict } :
      State) = { handed v chosen cls sender with fusion := countsOf v verdict chosen ring credit } := by
  obtain ⟨fusion, -⟩ := handed_keeps v chosen cls sender
  rw [applyChosen_eq, handed_ring]
  dsimp only
  rw [fusion]
  rfl

theorem applied_credit (ring : List RingEntry) :
    (State.applyChosen { v with fusion.ring := ring } chosen cls sender).fusion.credit = v.fusion.credit := by
  obtain ⟨fusion, -⟩ := handed_keeps v chosen cls sender
  rw [applyChosen_eq, handed_ring]
  exact (congrArg Fusion.credit fusion :)

theorem told_keeps (verdict : Verdict) :
    (told v verdict chosen cls sender).settings = v.settings ∧ (told v verdict chosen cls sender).now = v.now := by
  obtain ⟨-, settings, now, -⟩ := handed_keeps v chosen cls sender
  unfold told
  split
  · exact ⟨settings, now⟩
  · exact ⟨settings, now⟩

/-- The end of a close, from the station that has reported. -/
theorem endClose_eq (verdict : Verdict) (ring : List RingEntry) (credit credit' : Int) :
    State.endClose
        { told v verdict chosen cls sender with
          fusion := { countsOf v verdict chosen ring credit with
            degradedReported := isNonWheel verdict && (v.fusion.degradedReported || tells v verdict)
            credit := credit' } } =
      { told v verdict chosen cls sender with fusion := fusionAfter v verdict chosen ring credit' } := by
  obtain ⟨settings, now⟩ := told_keeps v chosen cls sender verdict
  unfold State.endClose State.inMs
  dsimp only
  rw [settings, now]
  rfl

end

/-- A close on MOTION (R62 to R67). -/
theorem closeMotion_eq (v : State) (sender : Ident) (dW : Int) (contact : Bool) {j : Judgement}
    (judged : judge v.settings v.fusion.ring (v.wheelDistance dW - v.fusion.credit)
      (rollerDistanceOf v.settings.rollerScale v.fusion) contact = j) :
    v.closeMotion sender dW contact =
      { told v j.verdict j.chosen (some .motion) (some sender) with
        fusion := fusionAfter v j.verdict j.chosen j.ring 0 } := by
  subst judged
  unfold State.closeMotion
  dsimp only
  generalize judge v.settings v.fusion.ring (v.wheelDistance dW - v.fusion.credit)
    (rollerDistanceOf v.settings.rollerScale v.fusion) contact = j
  have counted := counted_eq v j.chosen (some .motion) (some sender) j.verdict j.ring v.fusion.credit
  rw [← applied_credit v j.chosen (some .motion) (some sender) j.ring] at counted
  have reported := (congrArg (State.reportDegraded · (some .motion) (some sender)) counted).trans
    (reportDegraded_eq v j.chosen (some .motion) (some sender) j.verdict j.ring _)
  exact (congrArg (fun u : State => State.endClose { u with fusion.credit := 0 }) reported).trans (endClose_eq ..)

theorem changeOf_eq (v : State) (chosen : Int) : v.changeOf chosen = movedTo v chosen - v.fusion.p := by
  unfold State.changeOf movedTo
  split
  · rw [clampInt_eq _ (by decide)]
    rfl
  · exact (Int.sub_self _).symm

/-- A close on the closing timer with arrivals (R69). -/
theorem closeRoller_eq (v : State) (r : Int) :
    v.closeRoller r =
      { told v .rollerTimeout r none none with
        fusion := fusionAfter v .rollerTimeout r (pushRing v.fusion.ring ⟨none, some r⟩)
          (v.fusion.credit + (movedTo v r - v.fusion.p)) } := by
  have counted := counted_eq v r none none .rollerTimeout (pushRing v.fusion.ring ⟨none, some r⟩)
    (v.fusion.credit + (movedTo v r - v.fusion.p))
  have credit := applied_credit v r none none (pushRing v.fusion.ring ⟨none, some r⟩)
  rw [← changeOf_eq] at counted ⊢
  have reported := (congrArg (State.reportDegraded · none none) counted).trans
    (reportDegraded_eq v r none none .rollerTimeout _ _)
  unfold State.closeRoller
  dsimp only
  rw [credit]
  exact (congrArg State.endClose reported).trans (endClose_eq ..)

end Sys2Proof.Proofs.Interval
end

section
/-! PROOFS. The commands that close an interval (R43 to R46, R51, R62 to R71, R81 to R88): MOTION and the closing timer, and
what travel makes of the profile. -/

namespace Sys2Proof.Proofs.Closes

open Sys2Proof.Machine Sys2Proof.Proofs.Heard Sys2Proof.Proofs.Effects Sys2Proof.Proofs.Hearing
open Sys2Proof.Proofs.Measured Sys2Proof.Proofs.Interval

/-! ### The roller distance (R55) -/

theorem rollerCounts_eq (l g : Int) :
    rollerCounts l g =
      if (0 < l ∧ 0 < g) ∨ (l < 0 ∧ g < 0) then (if l.natAbs ≤ g.natAbs then l else g) else 0 := by
  have sign : l * g ≤ 0 ↔ ¬ ((0 < l ∧ 0 < g) ∨ (l < 0 ∧ g < 0)) := by
    rw [← mul_pos_iff, Int.not_lt]
  unfold rollerCounts
  by_cases same : (0 < l ∧ 0 < g) ∨ (l < 0 ∧ g < 0)
  · rw [if_pos same, if_neg (mt sign.mp (not_not.mpr same))]
  · rw [if_neg same, if_pos (sign.mpr same)]

theorem rollerDistance_none {scale : Nat} {f : Fusion} (empty : f.frames = 0) : rollerDistanceOf scale f = none :=
  if_pos empty

theorem rollerDistance_some {scale : Nat} {f : Fusion} (arrivals : f.frames ≠ 0) :
    rollerDistanceOf scale f =
      some ((if (0 < f.leftSum ∧ 0 < f.rightSum) ∨ (f.leftSum < 0 ∧ f.rightSum < 0) then
        (if f.leftSum.natAbs ≤ f.rightSum.natAbs then f.leftSum else f.rightSum) else 0) * scale) := by
  rw [← rollerCounts_eq]
  exact if_neg arrivals

/-! ### The closing timer (R68 to R71) -/

section
variable {s : State} {t due : Nat}

theorem closingTimer_arrivals {r : Int} (running : s.fusion.closing = some due)
    (arrivals : rollerDistanceOf s.settings.rollerScale s.fusion = some r) :
    exec (.closingTimerExpiry t) s = ((s.clockDue t due).closeRoller r).done := by
  have arrivals : rollerDistanceOf (s.clockDue t due).settings.rollerScale (s.clockDue t due).fusion = some r := arrivals
  simp only [exec, execClosingTimerExpiry, running, arrivals]

theorem closingTimer_empty (running : s.fusion.closing = some due)
    (empty : rollerDistanceOf s.settings.rollerScale s.fusion = none) :
    exec (.closingTimerExpiry t) s = (s.clockDue t due).closeEmpty.done := by
  have empty : rollerDistanceOf (s.clockDue t due).settings.rollerScale (s.clockDue t due).fusion = none := empty
  simp only [exec, execClosingTimerExpiry, running, empty]

end

/-- The Length Fusion Unit after an EMPTY close (R70). -/
def emptied (v : State) : Fusion :=
  { v.fusion with
    verdict := .empty
    emptyRun := min 255 (v.fusion.emptyRun + 1)
    leftSum := 0
    rightSum := 0
    frames := 0
    closing := some (v.now + 3 * v.settings.samplePeriod * 1000) }

section
variable {v : State}

theorem closeEmpty_kept (kept : ¬ (8 ≤ min 255 (v.fusion.emptyRun + 1) ∧ v.fusion.zeroed = true)) :
    v.closeEmpty = { v with fusion := emptied v } :=
  congrArg State.endClose (if_neg kept)

/-- The loss of the track (R71): the close ends as any EMPTY one, and the feed drops to MANUAL. -/
theorem closeEmpty_lost (lost : 8 ≤ min 255 (v.fusion.emptyRun + 1) ∧ v.fusion.zeroed = true) :
    v.closeEmpty =
      { State.report { v with fusion := { emptied v with zeroed := false } } .trackLost none none with
        feed := v.feed.toManual } := by
  have reported (f : Fusion) (same : f.p = v.fusion.p) := report_fusion v none none (f := f) .trackLost same
  rw [reported { emptied v with zeroed := false } rfl]
  refine (congrArg State.endClose (if_pos lost)).trans ?_
  have told := reported { v.fusion with verdict := .empty, emptyRun := satAdd v.fusion.emptyRun 1, zeroed := false } rfl
  exact congrArg (fun u : State => State.endClose { u with feed := u.feed.toManual }) told

end

/-- Settles O30: with arrivals the close of `closeRoller_eq`, without them the EMPTY close by whether the track is lost. -/
theorem closingTimerClosesTheInterval : Obligations.ClosingTimerClosesTheInterval := by
  intro t due s running run now timer l g counts r sum p moved clamped' handed' nonWheel tell told' empties lost empty
  refine ⟨fun arrivals => ?_, fun none kept => ?_, fun none isLost manual => ?_, fun none isLost auto => ?_⟩
  · refine (closingTimer_arrivals running (rollerDistance_some arrivals)).trans (congrArg State.done ?_)
    exact closeRoller_eq (s.clockDue t due) r
  · exact (closingTimer_empty running (rollerDistance_none none)).trans (congrArg State.done (closeEmpty_kept kept))
  · refine (closingTimer_empty running (rollerDistance_none none)).trans (congrArg State.done ?_)
    refine (closeEmpty_lost (v := s.clockDue t due) isLost).trans ?_
    exact congrArg (fun f => ({ State.report { empty with fusion.zeroed := false } .trackLost Option.none Option.none with
      feed := f } : State)) (toManual_of_manual manual)
  · refine (closingTimer_empty running (rollerDistance_none none)).trans (congrArg State.done ?_)
    refine (closeEmpty_lost (v := s.clockDue t due) isLost).trans ?_
    exact congrArg (fun f => ({ State.report { empty with fusion.zeroed := false } .trackLost Option.none Option.none with
      feed := f } : State)) (toManual_of_auto auto)

/-! ### MOTION (R43 to R46, R51, R62 to R67) -/

theorem flagOfCode_eq {contact : Byte} (coded : contact.toNat ≤ 1) :
    flagOfCode contact = some (decide (contact.toNat = 1)) := by
  rcases (show contact.toNat = 0 ∨ contact.toNat = 1 by omega) with code | code <;> simp [flagOfCode, code]

theorem exec_motion {t : Nat} {i : Ident} {seq : Byte} {total : Word} {contact : Byte} {s : State}
    (hears : s.hears (.motion t i seq total contact)) (coded : contact.toNat ≤ 1) :
    exec (.motion t i seq total contact) s =
      (((s.heard (.motion t i seq total contact)).takeMotion i seq total).1.deliverWheel i (decide (contact.toNat = 1))
        ((s.heard (.motion t i seq total contact)).takeMotion i seq total).2).done := by
  obtain ⟨ran, passes⟩ := exec_of_observes (rest := fun _ v =>
    if publishes v.peers[i] .measure then
      (v.takeMotion i seq total).1.deliverWheel i (decide (contact.toNat = 1)) (v.takeMotion i seq total).2
    else v) rfl (fun v => by simp only [exec, execMotion, flagOfCode_eq coded, Instr.time]) hears
  exact ran.trans (congrArg State.done (if_pos ((publishes_measure ..).1.trans passes)))

section
variable {v : State} {i : Ident} {seq : Byte} {total : Word}

theorem takeMotion_baseline (due : v.peers[i].baselinePending = true) :
    v.takeMotion i seq total =
      (v.setPeer i { v.peers[i] with wheelTotal := total, motionSeq := some seq, baselinePending := false }, .baseline) :=
  if_pos due

theorem takeMotion_delta (based : v.peers[i].baselinePending = false) :
    v.takeMotion i seq total =
      (gapped v .motion i { v.peers[i] with wheelTotal := total, motionSeq := some seq, baselinePending := false }
        (seqSkipped v.peers[i].motionSeq seq), .delta (total - v.peers[i].wheelTotal).toInt) := by
  rw [← countGap_eq]
  exact if_neg (Bool.eq_false_iff.mp based)

end

/-! ### The judgement of an interval (R63 to R65) -/

section
variable {σ : Settings} {ring : List RingEntry} {w r : Int}

/-- The sums have opposite signs (R65). -/
def Opposed (w r : Int) : Prop := (0 < w ∧ r < 0) ∨ (w < 0 ∧ 0 < r)

theorem opposed_iff : Opposed w r ↔ w * r < 0 := mul_neg_iff.symm

theorem compareSums_conflict (h : Opposed w r) : compareSums σ w r = .conflict := if_pos (opposed_iff.mp h)

theorem compareSums_slip (h : ¬ Opposed w r) (slip : allowanceOf σ r < (r.natAbs : Int) - w.natAbs) :
    compareSums σ w r = .rollerSlip := (if_neg (mt opposed_iff.mpr h)).trans (if_pos slip)

theorem compareSums_overrun (h : ¬ Opposed w r) (noSlip : (r.natAbs : Int) - w.natAbs ≤ allowanceOf σ r)
    (overrun : allowanceOf σ r < (w.natAbs : Int) - r.natAbs) : compareSums σ w r = .wheelOverrun :=
  (if_neg (mt opposed_iff.mpr h)).trans ((if_neg (Int.not_lt.mpr noSlip)).trans (if_pos overrun))

theorem compareSums_agree (h : ¬ Opposed w r) (noSlip : (r.natAbs : Int) - w.natAbs ≤ allowanceOf σ r)
    (noOverrun : (w.natAbs : Int) - r.natAbs ≤ allowanceOf σ r) : compareSums σ w r = .agree :=
  (if_neg (mt opposed_iff.mpr h)).trans ((if_neg (Int.not_lt.mpr noSlip)).trans (if_neg (Int.not_lt.mpr noOverrun)))

/-- The judgement of an interval with both distances and contact, from the verdict of the comparison (R64, R65). -/
theorem judge_compared {verdict : Verdict}
    (compared : compareSums σ (ringSums (pushRing ring ⟨some w, some r⟩)).1 (ringSums (pushRing ring ⟨some w, some r⟩)).2 =
      verdict) :
    judge σ ring w (some r) true =
      ⟨verdict, if verdict = .conflict then 0 else if verdict = .wheelOverrun then r else w,
        pushRing ring ⟨some w, some r⟩⟩ := by
  unfold judge
  dsimp only
  rw [compared, if_pos rfl]
  cases verdict <;> rfl

end

/-- Settles O27: a baseline, a delivery in START, or the close by the judgement of the interval. -/
theorem motionStoresABaselineOrClosesTheInterval : Obligations.MotionStoresABaselineOrClosesTheInterval := by
  intro t i seq total contact s c hears coded b p0 q missed stored gap n w0 w l g counts r newest both sumW sumR allowance
    signs closes
  have skipped : seqSkipped p0.motionSeq seq = missed := seqSkipped_eq _ _
  have ran : exec c s = ((b.takeMotion i seq total).1.deliverWheel i (decide (contact.toNat = 1))
      (b.takeMotion i seq total).2).done := exec_motion hears coded
  have taken (based : p0.baselinePending = false) : b.takeMotion i seq total = (gap, .delta n) := by
    rw [takeMotion_delta based, skipped]
    rfl
  obtain ⟨fusion, -, phase, -, -, -, settings, profile, -⟩ := gapped_keeps b .motion i q missed
  rw [← show gap = gapped b .motion i q missed from rfl] at fusion phase settings profile
  have closed (based : p0.baselinePending = false) (operating : s.phase = .operating) {verdict : Verdict} {chosen : Int}
      {ring : List RingEntry}
      (judged : judge s.settings s.fusion.ring w (rollerDistanceOf s.settings.rollerScale s.fusion)
        (decide (contact.toNat = 1)) = ⟨verdict, chosen, ring⟩)
      (counts : isNonWheel verdict = decide (verdict = .lift ∨ verdict = .wheelOverrun ∨ verdict = .conflict)) :
      closes verdict chosen ring := by
    rw [taken based] at ran
    have closing : exec c s = (gap.closeMotion i n (decide (contact.toNat = 1))).done := by
      refine ran.trans (congrArg State.done (if_pos ?_))
      exact phase.trans operating
    have judged : judge gap.settings gap.fusion.ring (gap.wheelDistance n - gap.fusion.credit)
        (rollerDistanceOf gap.settings.rollerScale gap.fusion) (decide (contact.toNat = 1)) = ⟨verdict, chosen, ring⟩ := by
      rw [State.wheelDistance, settings, fusion, profile]
      exact judged
    rw [closeMotion_eq gap i n _ judged] at closing
    unfold closes
    intro sum p moved clamped' handed' nonWheel run tell told'
    have nonWheel_eq : isNonWheel verdict = nonWheel := counts
    clear_value nonWheel
    subst nonWheel_eq
    by_cases noGap : missed = 0
    · have plain : gap = stored := if_pos noGap
      clear_value gap
      subst plain
      exact closing
    · have counted : gap = _ := if_neg noGap
      clear_value gap
      subst counted
      exact closing
  have distance (arrivals : s.fusion.frames ≠ 0) : rollerDistanceOf s.settings.rollerScale s.fusion = some r :=
    rollerDistance_some arrivals
  refine ⟨fun due => ?_, fun based start => ?_, fun based operating => ⟨fun empty => ?_, fun arrivals lifted => ?_,
    fun arrivals touching => ⟨fun opposed => ?_, fun agreed slip => ?_, fun agreed noSlip overrun => ?_,
      fun agreed noSlip noOverrun => ?_⟩⟩⟩
  · rw [takeMotion_baseline due] at ran
    refine ran.trans (congrArg State.done ?_)
    by_cases operating : s.phase = .operating
    · exact (if_pos operating).trans (congrArg (fun x => ({ stored with fusion.credit := x } : State)) (if_pos operating).symm)
    · exact (if_neg operating).trans (congrArg (fun x => ({ stored with fusion.credit := x } : State)) (if_neg operating).symm)
  · rw [taken based] at ran
    exact ran.trans (congrArg State.done (if_neg (phase.trans_ne (start.trans_ne (by decide)))))
  · refine closed based operating ?_ rfl
    rw [rollerDistance_none empty]
    rfl
  · refine closed based operating ?_ rfl
    rw [distance arrivals, lifted]
    rfl
  all_goals
    have judged {verdict : Verdict} (compared : compareSums s.settings sumW sumR = verdict) :
        judge s.settings s.fusion.ring w (rollerDistanceOf s.settings.rollerScale s.fusion) (decide (contact.toNat = 1)) =
          ⟨verdict, if verdict = .conflict then 0 else if verdict = .wheelOverrun then r else w, both⟩ := by
      rw [distance arrivals, decide_eq_true touching]
      exact judge_compared compared
  · exact closed based operating (judged (compareSums_conflict opposed)) rfl
  · exact closed based operating (judged (compareSums_slip agreed slip)) rfl
  · exact closed based operating (judged (compareSums_overrun agreed noSlip overrun)) rfl
  · exact closed based operating (judged (compareSums_agree agreed noSlip noOverrun)) rfl

end Sys2Proof.Proofs.Closes
end

section
/-! PROOFS. What travel makes of the profile (R81 to R88, R101, R112). -/

namespace Sys2Proof.Proofs.Travel

open Sys2Proof.Machine Sys2Proof.Proofs.Heard Sys2Proof.Proofs.Effects
open Sys2Proof.Proofs.Measured Sys2Proof.Proofs.Interval Sys2Proof.Proofs.Closes

/-- What a change of P handed to the Profile Unit makes of profile, stem and feed mode (R82, R83, R86, R88). -/
def Follows (s u : State) (change : Int) : Prop :=
  let thin : Prop := s.stem.state = .running ∧ s.fusion.zeroed = true ∧ s.profile.fused < s.settings.topDiameter
  let sum := s.profile.thinTravel + change.toNat
  (change ≤ 0 → u.profile = s.profile ∧ u.stem = s.stem) ∧
  (0 < change →
    (∀ k : Fin 400, ∀ mm, s.profile.buckets[k] = some mm → u.profile.buckets[k] = some mm) ∧
    (∀ k : Fin 400, s.profile.buckets[k] = none →
      u.profile.buckets[k] = if (k.val : Int) * 100000 ≤ u.fusion.p then some s.profile.fused else none) ∧
    u.profile =
      { s.profile with buckets := u.profile.buckets, thinTravel := if thin then sum else s.profile.thinTravel } ∧
    (¬ (thin ∧ s.settings.topTravel * 1000 ≤ sum) → u.stem = s.stem) ∧
    (thin → s.settings.topTravel * 1000 ≤ sum →
      u.stem = { s.stem with state := .topped, orders := u.stem.orders } ∧ u.feed.mode = .manual ∧
      ∀ i : Fin 12, u.stem.orders[i] =
        match s.stem.orders[i] with
        | some o => some (if o.status = .pending ∨ o.status = .active then { o with status := .abandoned } else o)
        | none => none))

/-! ### The buckets (R82, R83) -/

theorem fillBuckets_filled {buckets : Vector (Option Nat) 400} (p : Int) (fused : Nat) {k : Fin 400} {mm : Nat}
    (h : buckets[k] = some mm) : (fillBuckets buckets p fused)[k] = some mm := by
  have slot : (fillBuckets buckets p fused)[k] = _ := Vector.getElem_ofFn k.isLt
  rw [slot]
  simp only [Fin.eta, h]

theorem fillBuckets_empty {buckets : Vector (Option Nat) 400} (p : Int) (fused : Nat) {k : Fin 400}
    (h : buckets[k] = none) :
    (fillBuckets buckets p fused)[k] = if (k.val : Int) * 100000 ≤ p then some fused else none := by
  have slot : (fillBuckets buckets p fused)[k] = _ := Vector.getElem_ofFn k.isLt
  rw [slot]
  simp only [Fin.eta, h]

/-! ### The hand-over -/

section
variable (v : State) (change : Int)

theorem filled_keeps : (filled v).fusion = v.fusion ∧ (filled v).stem = v.stem := by
  constructor <;> dsimp only [filled]

theorem thinned_keeps : (thinned v change).fusion = v.fusion ∧ (thinned v change).stem = v.stem := by
  constructor <;> dsimp only [thinned, filled]

theorem filled_profile :
    (filled v).profile = { v.profile with buckets := fillBuckets v.profile.buckets v.fusion.p v.profile.fused } := by
  dsimp only [filled]

theorem thinned_profile :
    (thinned v change).profile =
      { v.profile with
        buckets := fillBuckets v.profile.buckets v.fusion.p v.profile.fused
        thinTravel := v.profile.thinTravel + change.toNat } := by
  dsimp only [thinned, filled]

/-- The top is reported (R101): every unfinished order is abandoned, and the feed goes to MANUAL. -/
theorem reportTop_keeps :
    v.reportTop.stem = { v.stem with state := .topped, orders := abandonOrders v.stem.orders } ∧
      v.reportTop.feed = v.feed.toManual ∧ v.reportTop.profile = v.profile ∧ v.reportTop.fusion = v.fusion := by
  simp [State.reportTop, State.enterStem]

end

theorem abandoned_slot (orders : Vector (Option Order) 12) (i : Fin 12) :
    (abandonOrders orders)[i] =
      match orders[i] with
      | some o => some (if o.status = .pending ∨ o.status = .active then { o with status := .abandoned } else o)
      | none => none := by
  rw [getElem_abandonOrders]
  cases orders[i] with
  | none => rfl
  | some o =>
    by_cases unfinished : o.status = .pending ∨ o.status = .active
    · rw [finishSlot_unfinished unfinished]
      exact congrArg some (if_pos unfinished).symm
    · obtain ⟨notPending, notActive⟩ := not_or.mp unfinished
      rw [finishSlot_final notPending notActive]
      exact congrArg some (if_neg unfinished).symm

/-- Travel that is not forward leaves profile and stem. -/
theorem follows_still {s u : State} {change : Int} (back : change ≤ 0) (profile : u.profile = s.profile)
    (stem : u.stem = s.stem) : Follows s u change :=
  ⟨fun _ => ⟨profile, stem⟩, fun forward => absurd forward (Int.not_lt.mpr back)⟩

/-- Forward travel, from what it makes of profile, stem and feed mode. -/
theorem follows_forward {v u : State} {change : Int} (forward : 0 < change) (place : u.fusion.p = v.fusion.p)
    (profile : u.profile =
      { v.profile with
        buckets := fillBuckets v.profile.buckets v.fusion.p v.profile.fused
        thinTravel :=
          if v.stem.state = .running ∧ v.fusion.zeroed = true ∧ v.profile.fused < v.settings.topDiameter then
            v.profile.thinTravel + change.toNat
          else v.profile.thinTravel })
    (below : ¬ (Thin v ∧ v.settings.topTravel * 1000 ≤ v.profile.thinTravel + change.toNat) → u.stem = v.stem)
    (top : Thin v → v.settings.topTravel * 1000 ≤ v.profile.thinTravel + change.toNat →
      u.stem = { v.stem with state := .topped, orders := abandonOrders v.stem.orders } ∧ u.feed.mode = .manual) :
    Follows v u change := by
  have buckets : u.profile.buckets = fillBuckets v.profile.buckets v.fusion.p v.profile.fused :=
    (congrArg Profile.buckets profile :)
  refine ⟨fun back => absurd forward (Int.not_lt.mpr back), fun _ => ⟨fun k mm held => ?_, fun k empty => ?_, ?_, below,
    fun thin reached => ?_⟩⟩
  · rw [buckets]
    exact fillBuckets_filled _ _ held
  · rw [buckets, place]
    exact fillBuckets_empty _ _ empty
  · rw [buckets]
    exact profile
  · obtain ⟨stem, manual⟩ := top thin reached
    have orders : u.stem.orders = abandonOrders v.stem.orders := (congrArg StemUnit.orders stem :)
    refine ⟨?_, manual, fun i => ?_⟩
    · rw [orders]
      exact stem
    · rw [orders]
      exact abandoned_slot v.stem.orders i

/-- What a hand-over makes of the profile, by whether the travel is forward, thin and reaches the top. -/
theorem handOver_follows (v : State) (change : Int) : Follows v (v.handOver change) change := by
  by_cases forward : 0 < change
  case neg =>
    rw [handOver_back forward]
    exact follows_still (Int.not_lt.mp forward) rfl rfl
  by_cases thin : Thin v
  · obtain ⟨fusion', stem'⟩ := thinned_keeps v change
    have profile' := thinned_profile v change
    have isThin : v.stem.state = .running ∧ v.fusion.zeroed = true ∧ v.profile.fused < v.settings.topDiameter := thin
    by_cases reached : v.settings.topTravel * 1000 ≤ v.profile.thinTravel + change.toNat
    · obtain ⟨stem, feed, profile, fusion⟩ := reportTop_keeps (thinned v change)
      rw [handOver_top forward thin reached]
      refine follows_forward forward (congrArg Fusion.p (fusion.trans fusion')) ?_ (fun h => absurd ⟨thin, reached⟩ h)
        fun _ _ => ⟨?_, ?_⟩
      · rw [profile, profile', if_pos isThin]
      · rw [stem, stem']
      · rw [feed]
        exact toManual_mode _
    · rw [handOver_thin forward thin reached]
      refine follows_forward forward (congrArg Fusion.p fusion') ?_ (fun _ => stem') fun _ top => absurd top reached
      rw [profile', if_pos isThin]
  · obtain ⟨fusion, stem⟩ := filled_keeps v
    rw [handOver_thick forward thin]
    refine follows_forward forward (congrArg Fusion.p fusion) ?_ (fun _ => stem) fun isThin => absurd isThin thin
    have thick : ¬ (v.stem.state = .running ∧ v.fusion.zeroed = true ∧ v.profile.fused < v.settings.topDiameter) := thin
    rw [filled_profile, if_neg thick]

/-- The effect of travel follows the parts of the station it speaks of. -/
theorem Follows.transfer {s s' u u' : State} {change : Int} (h : Follows s u change) (stem : s'.stem = s.stem)
    (profile : s'.profile = s.profile) (settings : s'.settings = s.settings) (zeroed : s'.fusion.zeroed = s.fusion.zeroed)
    (stem' : u'.stem = u.stem) (profile' : u'.profile = u.profile) (mode : u'.feed.mode = u.feed.mode)
    (place : u'.fusion.p = u.fusion.p) : Follows s' u' change := by
  unfold Follows at h ⊢
  rw [stem, profile, settings, zeroed, stem', profile', mode, place]
  exact h

/-- A close that is not EMPTY hands its change to the Profile Unit. -/
theorem close_follows (v : State) (verdict : Verdict) (chosen : Int) (ring : List RingEntry) (credit : Int)
    (cls : Option FrameClass) (sender : Option Ident) {u : State}
    (closed : u = State.refresh
      { told v verdict chosen cls sender with fusion := fusionAfter v verdict chosen ring credit }) :
    Follows v u (u.fusion.p - v.fusion.p) := by
  have place : u.fusion.p = movedTo v chosen := by
    rw [closed]
    rfl
  obtain ⟨fusion, settings, -, -, stem, profile, -⟩ := clamped_keeps v chosen cls sender
  have kept : (told v verdict chosen cls sender).stem = (handed v chosen cls sender).stem ∧
      (told v verdict chosen cls sender).profile = (handed v chosen cls sender).profile ∧
      (told v verdict chosen cls sender).feed = (handed v chosen cls sender).feed := by
    unfold told
    split <;> exact ⟨rfl, rfl, rfl⟩
  obtain ⟨stem', profile', feed'⟩ := kept
  have handedP : (handed v chosen cls sender).fusion.p = movedTo v chosen :=
    (congrArg Fusion.p (handed_keeps v chosen cls sender).1 :)
  rw [place]
  refine (handOver_follows (clamped v chosen cls sender) (movedTo v chosen - v.fusion.p)).transfer stem.symm profile.symm
    settings.symm (congrArg Fusion.zeroed fusion :).symm ?_ ?_ ?_ (place.trans handedP.symm)
  · rw [closed]
    exact stem'
  · rw [closed]
    exact profile'
  · rw [closed]
    exact (congrArg Feed.mode feed' :)

/-- An EMPTY close moves neither P nor profile nor stem (R70, R71). -/
theorem closeEmpty_keeps (v : State) :
    v.closeEmpty.fusion.p = v.fusion.p ∧ v.closeEmpty.profile = v.profile ∧ v.closeEmpty.stem = v.stem := by
  by_cases lost : 8 ≤ min 255 (v.fusion.emptyRun + 1) ∧ v.fusion.zeroed = true
  · rw [closeEmpty_lost lost]
    exact ⟨rfl, rfl, rfl⟩
  · rw [closeEmpty_kept lost]
    exact ⟨rfl, rfl, rfl⟩

/-- A MOTION frame with a delta in OPERATING closes the interval of a station that has stored the entry. -/
theorem exec_motion_closes {t : Nat} {i : Ident} {seq : Byte} {total : Word} {contact : Byte} {s : State}
    (hears : s.hearsWorking (.motion t i seq total contact)) (coded : contact.toNat ≤ 1)
    (based : (s.heard (.motion t i seq total contact)).peers[i].baselinePending = false) :
    ∃ (v : State) (d : Int), exec (.motion t i seq total contact) s = (v.closeMotion i d (decide (contact.toNat = 1))).done ∧
      v.fusion = s.fusion ∧ v.stem = s.stem ∧ v.settings = s.settings ∧ v.profile = s.profile := by
  obtain ⟨operating, hears⟩ := hears
  have ran := exec_motion hears coded
  rw [takeMotion_delta based] at ran
  obtain ⟨fusion, -, phase, -, -, stem, settings, profile, -⟩ := gapped_keeps (s.heard (.motion t i seq total contact))
    .motion i
    { (s.heard (.motion t i seq total contact)).peers[i] with
      wheelTotal := total, motionSeq := some seq, baselinePending := false }
    (seqSkipped (s.heard (.motion t i seq total contact)).peers[i].motionSeq seq)
  exact ⟨_, _, ran.trans (congrArg State.done (if_pos (phase.trans operating))), fusion, stem, settings, profile⟩

/-- Settles O34: each close by `close_follows`, an EMPTY one without travel, and the hand-over itself. -/
theorem forwardTravelFillsTheProfile : Obligations.ForwardTravelFillsTheProfile := by
  unfold Obligations.ForwardTravelFillsTheProfile
  intro follows
  refine ⟨fun t i seq total contact s hears coded based => ?_, fun t due s running => ?_, fun s change => ?_⟩
  · obtain ⟨v, d, ran, fusion, stem, settings, profile⟩ := exec_motion_closes hears coded based
    rw [closeMotion_eq v i _ _ rfl] at ran
    have place : v.fusion.p = s.fusion.p := (congrArg Fusion.p fusion :)
    rw [← place]
    exact ⟨_, ran, (close_follows v _ _ _ _ (some .motion) (some i) rfl).transfer stem.symm profile.symm settings.symm
      (congrArg Fusion.zeroed fusion :).symm rfl rfl rfl rfl⟩
  · by_cases arrivals : s.fusion.frames = 0
    · have ran := closingTimer_empty (t := t) running (rollerDistance_none arrivals)
      obtain ⟨place, profile, stem⟩ := closeEmpty_keeps (s.clockDue t due)
      generalize (s.clockDue t due).closeEmpty = z at ran place profile stem
      exact ⟨_, ran, follows_still (Int.le_of_eq (Int.sub_eq_zero.mpr place)) profile stem⟩
    · have ran := closingTimer_arrivals (t := t) running (rollerDistance_some arrivals)
      rw [closeRoller_eq] at ran
      exact ⟨_, ran, (close_follows (s.clockDue t due) .rollerTimeout _ _ _ none none rfl).transfer rfl rfl rfl rfl rfl rfl
        rfl rfl⟩
  · intro u
    obtain ⟨fusion, -, -, link, peers, safety, -⟩ := handOver_keeps s change
    exact ⟨handOver_follows s change, fusion, link, peers, safety, fun back => handOver_back (Int.not_lt.mpr back)⟩

end Sys2Proof.Proofs.Travel
end

section
/-! PROOFS. The Peer Table's own commands (R31, R33, R37 to R40, R125): ANNOUNCE and the silence of a peer. -/

namespace Sys2Proof.Proofs.Peers

open Sys2Proof.Machine Sys2Proof.Proofs.Effects Sys2Proof.Proofs.Hearing Sys2Proof.Proofs.Shared
open Sys2Proof.Proofs.Invariants

/-! ### The silence of a peer (R37, R125) -/

theorem peerSilenceTimeout_present {t heard : Nat} {i : Ident} {s : State} (present : s.peers[i].presence = .present)
    (last : s.peers[i].lastHeard = some heard) (awake : s.phase ≠ .silent) :
    exec (.peerSilenceTimeout t i) s =
      (if s.peers[i].role = .d226 .saw ∧ s.peers[i].conflict = false then
        (((s.clockDue t (heard + ms s.peers[i].timeout)).setPeer i s.peers[i].lose).report .peerLost none
          (some i)).sawLost i
      else ((s.clockDue t (heard + ms s.peers[i].timeout)).setPeer i s.peers[i].lose).report .peerLost none
          (some i)).done := by
  show execPeerSilenceTimeout t i s = _
  unfold execPeerSilenceTimeout
  simp only [last]
  exact if_pos ⟨present, awake⟩

/-- Settles O23: the entry is lost and told; the Feed Controller is told where its SAW peer is lost. -/
theorem silentPeersAreLost : Obligations.SilentPeersAreLost := by
  intro t heard i s present last awake lost
  have ran := peerSilenceTimeout_present (t := t) present last awake
  refine ⟨fun ⟨feed, held, saw, unmarked⟩ => ?_, fun other => ?_⟩
  · exact ran.trans (congrArg State.done ((if_pos ⟨saw, unmarked⟩).trans (if_pos ⟨feed, held⟩)))
  · refine ran.trans (congrArg State.done ?_)
    by_cases saw : s.peers[i].role = .d226 .saw ∧ s.peers[i].conflict = false
    · exact (if_pos saw).trans (if_neg fun ⟨feed, held⟩ => other ⟨feed, held, saw⟩)
    · exact if_neg saw

/-! ### The entry an ANNOUNCE sets (R31, R38 to R40) -/

/-- The entry of the sender once content and restart are taken (R38, R39). -/
def announcedEntry (p : Peer) (now timeout : Nat) (r : PeerRole) (ph : Phase) (m : StemState) (restarted : Bool) : Peer :=
  let a := (p.heard now timeout .announce).announced r ph m
  if restarted then a.rebaseline else a

/-- The entry after the conflict check (R40). -/
def judgedEntry (e : Peer) (held : Bool) : Peer :=
  if held then (if e.conflict then e else { e with conflict := true, baselinePending := true })
  else { e with conflict := false }

section
variable {p : Peer} {now timeout : Nat} {r : PeerRole} {ph : Phase} {m : StemState}

/-- The recording of an ANNOUNCE in the entry of another station (R36). -/
theorem heard_announce (foreign : p.presence ≠ .self) :
    p.heard now timeout .announce =
      if p.presence = .absent ∨ p.presence = .lost then
        { p.rebaseline with presence := .present, lastHeard := some now, timeout := timeout }
      else { p with presence := .present, lastHeard := some now, timeout := timeout } := by
  by_cases renewed : p.presence = .absent ∨ p.presence = .lost
  · rw [if_pos renewed, heard_renewed now timeout .announce renewed]
    rfl
  · have present : p.presence = .present := by cases h : p.presence <;> simp_all
    rw [if_neg renewed, heard_present now timeout .announce present, ← present]
    rfl

/-- Whether the reference of the sequence numbers is lost: by a join, a restart or a change of role (R38, R39). -/
def Fresh (p : Peer) (r : PeerRole) (restarted : Bool) : Prop :=
  (p.presence = .absent ∨ p.presence = .lost) ∨ restarted = true ∨ p.role ≠ r

theorem announcedEntry_eq (foreign : p.presence ≠ .self) (restarted : Bool) [Decidable (Fresh p r restarted)] :
    announcedEntry p now timeout r ph m restarted =
      { (if Fresh p r restarted then p.rebaseline else p) with
        presence := .present, lastHeard := some now, timeout := timeout, role := r, phase := ph, stem := m } := by
  unfold announcedEntry Peer.announced
  rw [heard_announce foreign]
  by_cases joined : p.presence = .absent ∨ p.presence = .lost
  · have fresh : Fresh p r restarted := .inl joined
    by_cases same : p.role = r <;> cases restarted <;> simp [joined, fresh, same, Peer.rebaseline]
  · by_cases same : p.role = r
    · cases restarted <;> simp [joined, Fresh, same, Peer.rebaseline]
    · have fresh : Fresh p r restarted := .inr (.inr same)
      cases restarted <;> simp [joined, fresh, same, Peer.rebaseline]

/-- The fields of the sender's entry before the conflict check. -/
theorem announcedEntry_spec {e : Peer} {restarted : Bool} (foreign : p.presence ≠ .self)
    (entry : e = announcedEntry p now timeout r ph m restarted) :
    (e.presence = .present ∧ e.role = r ∧ e.phase = ph ∧ e.stem = m ∧ e.lastHeard = some now ∧ e.timeout = timeout) ∧
      e.conflict = p.conflict ∧ (e.baselinePending = true ↔ p.baselinePending = true ∨ Fresh p r restarted) ∧
      (Fresh p r restarted → e.motionSeq = none ∧ e.rollerSeq = none ∧ e.gateSeq = none) ∧
      (¬ Fresh p r restarted → e.motionSeq = p.motionSeq ∧ e.rollerSeq = p.rollerSeq ∧ e.gateSeq = p.gateSeq) ∧
      e.wheelTotal = p.wheelTotal ∧ e.leftTotal = p.leftTotal ∧ e.rightTotal = p.rightTotal ∧ e.gapCount = p.gapCount := by
  classical
  rw [entry, announcedEntry_eq foreign]
  by_cases fresh : Fresh p r restarted
  · rw [if_pos fresh]
    simp [fresh, Peer.rebaseline]
  · rw [if_neg fresh]
    simp [fresh]

theorem judgedEntry_conflict (e : Peer) (held : Bool) : (judgedEntry e held).conflict = held := by
  unfold judgedEntry
  cases held
  · rfl
  · cases marked : e.conflict <;> simp [marked]

theorem judgedEntry_baseline (e : Peer) (held : Bool) :
    (judgedEntry e held).baselinePending = true ↔
      e.baselinePending = true ∨ (held = true ∧ e.conflict = false) := by
  unfold judgedEntry
  cases held
  · simp
  · cases marked : e.conflict <;> simp

/-- The conflict check moves the mark and the baseline alone. -/
theorem judgedEntry_eq (e : Peer) (held : Bool) :
    judgedEntry e held =
      { e with
        conflict := (judgedEntry e held).conflict
        baselinePending := (judgedEntry e held).baselinePending } := by
  unfold judgedEntry
  cases held
  · rfl
  · cases e.conflict <;> rfl

end

/-! ### The station an ANNOUNCE finds (R31, R33, R38 to R40) -/

theorem roleHeldByOther_iff {peers : Vector Peer 8} {i : Ident} {r : PeerRole} :
    roleHeldByOther peers i r = true ↔
      ∃ j : Fin 8, j ≠ i ∧ peers[j].role = r ∧
        (peers[j].presence = .self ∨ (peers[j].presence = .present ∧ peers[j].conflict = false)) := by
  simp [roleHeldByOther, and_assoc]

/-- The station has moved in link, Peer Table and Safety Unit alone. -/
def OnlyTold (v z : State) : Prop := z = { v with link := z.link, peers := z.peers, safety := z.safety }

theorem OnlyTold.refl (v : State) : OnlyTold v v := rfl

theorem OnlyTold.trans {v w z : State} (first : OnlyTold v w) (second : OnlyTold w z) : OnlyTold v z := by
  unfold OnlyTold at *
  rw [second, first]

theorem onlyTold_callAnnounce (v : State) : OnlyTold v v.callAnnounce := by
  unfold OnlyTold State.callAnnounce
  split
  · rfl
  · split
    · rfl
    · split <;> rfl
    · rfl

/-- A restart reported, with a new baseline, before the call for the own ANNOUNCE (R39). -/
def restartTold (v : State) (i : Ident) : State :=
  (v.report .peerRestarted (some .announce) (some i)).setPeer i v.peers[i].rebaseline

theorem peerRestarted_eq (v : State) (i : Ident) : v.peerRestarted i = (restartTold v i).callAnnounce := rfl

/-- The conflict check (R40): the entry, and the fault a new mark brings. -/
theorem judgeRole_eq (v : State) (i : Ident) (r : PeerRole) :
    v.judgeRole i r =
      State.setPeer
        (if roleHeldByOther v.peers i r = true ∧ v.peers[i].conflict = false then
          v.report .roleConflict (some .announce) (some i)
        else v) i (judgedEntry v.peers[i] (roleHeldByOther v.peers i r)) := by
  unfold State.judgeRole judgedEntry
  dsimp only
  cases roleHeldByOther v.peers i r
  · simp
  · cases marked : v.peers[i].conflict
    · simp
    · have same : v.setPeer i v.peers[i] = v := by simp [State.setPeer]
      exact same.symm

/-- The station that has called for its own ANNOUNCE where a peer joins or restarts (R31, R39). -/
def called (v : State) (i : Ident) (joined restarted : Bool) : State :=
  if restarted then v.peerRestarted i else if joined then v.callAnnounce else v

section
variable (v : State) (i : Ident) (joined restarted : Bool)

theorem called_onlyTold : OnlyTold v (called v i joined restarted) := by
  unfold called
  split
  · rw [peerRestarted_eq]
    exact OnlyTold.trans (w := restartTold v i) rfl (onlyTold_callAnnounce _)
  · split
    · exact onlyTold_callAnnounce v
    · exact .refl v

theorem called_entry :
    (called v i joined restarted).peers[i] = if restarted then v.peers[i].rebaseline else v.peers[i] := by
  unfold called
  cases restarted
  · cases joined
    · rfl
    · exact congrArg (fun peers : Vector Peer 8 => peers[i]) (State.callAnnounce_peers v)
  · refine (congrArg (fun peers : Vector Peer 8 => peers[i]) (State.callAnnounce_peers (restartTold v i))).trans ?_
    exact (getElem_setPeer _ i i _).trans (if_pos rfl)

theorem called_other {j : Fin 8} (other : j ≠ i) : (called v i joined restarted).peers[j] = v.peers[j] := by
  unfold called
  cases restarted
  · cases joined
    · rfl
    · exact congrArg (fun peers : Vector Peer 8 => peers[j]) (State.callAnnounce_peers v)
  · refine (congrArg (fun peers : Vector Peer 8 => peers[j]) (State.callAnnounce_peers (restartTold v i))).trans ?_
    exact (getElem_setPeer _ i j _).trans (if_neg other)

theorem called_announce (awake : v.phase ≠ .silent) (empty : v.link.announceSlot = none)
    (calls : joined = true ∨ restarted = true) :
    (called v i joined restarted).link.announceSlot = some ⟨.announce v.role v.phase v.stem.state, 0⟩ := by
  unfold called
  cases restarted
  · cases joined
    · simp at calls
    · exact (congrArg (fun u : State => u.link.announceSlot) (Arbiter.callAnnounce_empty awake empty) :)
  · exact (congrArg (fun u : State => u.link.announceSlot)
      (Arbiter.callAnnounce_empty (s := restartTold v i) awake empty) :)

theorem called_safety :
    (called v i joined restarted).safety =
      if restarted then (v.report .peerRestarted (some .announce) (some i)).safety else v.safety := by
  unfold called
  cases restarted
  · cases joined
    · rfl
    · exact State.callAnnounce_safety v
  · exact State.callAnnounce_safety (restartTold v i)

end

theorem takeAnnounce_eq (v : State) (was : Peer) (i : Ident) (r : PeerRole) (ph : Phase) (m : StemState)
    {joined restarted : Bool} (joins : joined = true ↔ was.presence = .absent ∨ was.presence = .lost)
    (restarts : restarted = true ↔ was.presence = .present ∧ was.phase = .operating ∧ ph = .start) :
    v.takeAnnounce was i r ph m =
      (called (v.setPeer i (v.peers[i].announced r ph m)) i joined restarted).judgeRole i r := by
  unfold State.takeAnnounce called
  dsimp only
  rw [if_congr joins.symm rfl rfl, if_congr restarts.symm rfl rfl]
  cases restarted
  · rfl
  · have present : joined = false := by
      have same := (restarts.mp rfl).1
      rw [Bool.eq_false_iff]
      intro isJoined
      have away := joins.mp isJoined
      rw [same] at away
      simp at away
    rw [present]
    rfl

/-- The record after a capture reads the record, the stem and P. -/
theorem report_record_congr {u v : State} (k : FaultKind) (cls : Option FrameClass) (sender : Option Ident)
    (stem : u.stem = v.stem) (place : u.fusion.p = v.fusion.p) (record : u.safety.record = v.safety.record) :
    (u.report k cls sender).safety.record = (v.report k cls sender).safety.record := by
  have fields : u.captureFields k cls sender = v.captureFields k cls sender := by
    unfold State.captureFields State.activeIndex
    rw [stem, place]
  show takeCapture u.safety.record (u.captureFields k cls sender) = _
  rw [fields, record]
  rfl

/-- Bringing a station up to date reads neither the SELF entry nor the fault line that it has brought up to date. -/
theorem refresh_refreshed (v : State) :
    State.refresh { v with peers := v.refresh.peers, safety := v.refresh.safety } = v.refresh :=
  congrArg (fun peers => { v.refresh with peers := peers }) (Follow.refresh_peers_twice v)

theorem exec_announce {t : Nat} {i : Ident} {role phase stem revision : Byte} {r : PeerRole} {ph : Phase} {m : StemState}
    {s : State} (awake : s.phase ≠ .silent) (other : i ≠ s.identity) (hr : PeerRole.ofCode role = some r)
    (hp : Phase.ofAnnounce phase = some ph) (hm : StemState.ofCode stem = some m) :
    exec (.announce t i role phase stem revision) s =
      ((s.record t ⟨.announce, i, [role, phase, stem, revision]⟩).takeAnnounce s.peers[i] i r ph m).done := by
  show execAnnounce t i role phase stem revision s = _
  unfold execAnnounce
  simp only [hr, hp, hm]
  refine congrArg State.done ((observe_recorded awake fun same => absurd same other).trans ?_)
  exact if_neg other

/-- The station after the ANNOUNCE of another, before it is brought up to date. -/
def announced (s : State) (t : Nat) (f : RawFrame) (r : PeerRole) (ph : Phase) (m : StemState) (joined restarted : Bool) :
    State :=
  called ((s.record t f).setPeer f.sender ((s.record t f).peers[f.sender].announced r ph m)) f.sender joined restarted

section
variable (s : State) (t : Nat) (f : RawFrame) (r : PeerRole) (ph : Phase) (m : StemState) (joined restarted : Bool)

theorem announced_onlyTold :
    OnlyTold { s with now := max s.now t } (announced s t f r ph m joined restarted) :=
  OnlyTold.trans (w := (s.record t f).setPeer f.sender ((s.record t f).peers[f.sender].announced r ph m)) rfl
    (called_onlyTold ..)

theorem announced_entry (cls : f.cls = .announce) :
    (announced s t f r ph m joined restarted).peers[f.sender] =
      announcedEntry s.peers[f.sender] (max s.now t) s.settings.silenceTimeout r ph m restarted := by
  refine (called_entry ..).trans ?_
  rw [getElem_setPeer, if_pos rfl, record_entry, cls]
  rfl

theorem announced_other {j : Fin 8} (other : j ≠ f.sender) :
    (announced s t f r ph m joined restarted).peers[j] = s.peers[j] := by
  refine (called_other _ _ _ _ other).trans ?_
  rw [getElem_setPeer, if_neg other, record_other s t f other]

end

/-- The conflict check leaves the ANNOUNCE slot, the repeat mark and the entries of the others. -/
theorem judgeRole_keeps (v : State) (i : Ident) (r : PeerRole) :
    OnlyTold v (v.judgeRole i r) ∧ (v.judgeRole i r).link.announceSlot = v.link.announceSlot ∧
      (v.judgeRole i r).link.repeatMark = v.link.repeatMark ∧
      (v.judgeRole i r).peers[i] = judgedEntry v.peers[i] (roleHeldByOther v.peers i r) ∧
      ∀ j : Fin 8, j ≠ i → (v.judgeRole i r).peers[j] = v.peers[j] := by
  rw [judgeRole_eq]
  split
  · exact ⟨rfl, rfl, rfl, (getElem_setPeer _ i i _).trans (if_pos rfl), fun j other =>
      (getElem_setPeer _ i j _).trans (if_neg other)⟩
  · exact ⟨rfl, rfl, rfl, (getElem_setPeer _ i i _).trans (if_pos rfl), fun j other =>
      (getElem_setPeer _ i j _).trans (if_neg other)⟩

theorem judgeRole_record (v : State) (i : Ident) (r : PeerRole) :
    (v.judgeRole i r).safety.record =
      if roleHeldByOther v.peers i r = true ∧ v.peers[i].conflict = false then
        (v.report .roleConflict (some .announce) (some i)).safety.record
      else v.safety.record := by
  rw [judgeRole_eq]
  split <;> rfl

/-- Settles O24: the entry by `announcedEntry` and `judgedEntry`, the calls and captures by join, restart and conflict. -/
theorem announceSetsTheEntry : Obligations.AnnounceSetsTheEntry := by
  intro t i role phase stem revision r ph m s awake other foreign hr hp hm
  let f : RawFrame := ⟨.announce, i, [role, phase, stem, revision]⟩
  let joins : Bool := decide (s.peers[i].presence = .absent ∨ s.peers[i].presence = .lost)
  let restarts : Bool := decide (s.peers[i].presence = .present ∧ s.peers[i].phase = .operating ∧ ph = .start)
  have ran := exec_announce (t := t) (revision := revision) awake other hr hp hm
  rw [takeAnnounce_eq _ _ _ _ _ _ (joined := joins) (restarted := restarts) decide_eq_true_iff decide_eq_true_iff] at ran
  have told := announced_onlyTold s t f r ph m joins restarts
  have entry : (announced s t f r ph m joins restarts).peers[i] = _ := announced_entry s t f r ph m joins restarts rfl
  have others (j : Fin 8) (different : j ≠ i) := announced_other s t f r ph m joins restarts (j := j) different
  have slot (empty : s.link.announceSlot = none) (calls : joins = true ∨ restarts = true) :
      (announced s t f r ph m joins restarts).link.announceSlot = some ⟨.announce s.role s.phase s.stem.state, 0⟩ :=
    called_announce _ i joins restarts awake empty calls
  have quiet (stays : joins = false) (runs : restarts = false) :
      (announced s t f r ph m joins restarts).link.announceSlot = s.link.announceSlot ∧
        (announced s t f r ph m joins restarts).link.repeatMark = s.link.repeatMark := by
    rw [stays, runs]
    exact ⟨rfl, rfl⟩
  have safety : (announced s t f r ph m joins restarts).safety.record =
      if restarts then (s.report .peerRestarted (some .announce) (some i)).safety.record else s.safety.record := by
    refine (congrArg SafetyUnit.record (called_safety _ i joins restarts)).trans ?_
    cases restarts <;> rfl
  change exec _ s = ((announced s t f r ph m joins restarts).judgeRole i r).done at ran
  generalize announced s t f r ph m joins restarts = z at *
  obtain ⟨told', slot', mark', entry', others'⟩ := judgeRole_keeps z i r
  have record' := judgeRole_record z i r
  have heldBy : roleHeldByOther z.peers i r = true ↔ ∃ j : Fin 8, j ≠ i ∧ s.peers[j].role = r ∧
      (s.peers[j].presence = .self ∨ (s.peers[j].presence = .present ∧ s.peers[j].conflict = false)) :=
    roleHeldByOther_iff.trans (exists_congr fun j => and_congr_right fun different => by rw [others j different])
  have capture (runs : restarts = false) : (z.report .roleConflict (some .announce) (some i)).safety.record =
      (s.report .roleConflict (some .announce) (some i)).safety.record := by
    rw [runs] at safety
    exact report_record_congr _ _ _ (congrArg State.stem told :) (congrArg (fun v : State => v.fusion.p) told :) safety
  have only := told.trans told'
  generalize z.judgeRole i r = y at *
  generalize roleHeldByOther z.peers i r = held at *
  obtain ⟨⟨presence, role', phase', stem', lastHeard, timeout⟩, conflict, baseline, cleared, kept, wheel, left, right, gap⟩ :=
    announcedEntry_spec foreign entry
  have identity : y.identity = s.identity := (congrArg State.identity only :)
  have self : y.refresh.peers[i] = judgedEntry z.peers[i] held := by
    rw [getElem_refresh_peers, if_neg (identity ▸ other), entry']
  have marked := judgedEntry_conflict z.peers[i] held
  have based := judgedEntry_baseline z.peers[i] held
  have judged := judgedEntry_eq z.peers[i] held
  rw [← self] at marked based judged
  rw [conflict] at based record'
  have fresh : Fresh s.peers[i] r restarts ↔ (s.peers[i].presence = .absent ∨ s.peers[i].presence = .lost) ∨
      (s.peers[i].presence = .present ∧ s.peers[i].phase = .operating ∧ ph = .start) ∨ s.peers[i].role ≠ r :=
    or_congr_right (or_congr_left decide_eq_true_iff)
  refine ⟨_, ran, ?_⟩
  intro p joined restarted isHeld isFresh newlyMarked
  have newly : (held = true ∧ s.peers[i].conflict = false) ↔ newlyMarked := and_congr_left' heldBy
  refine ⟨(congrArg Peer.presence judged).trans presence, (congrArg Peer.role judged).trans role',
    (congrArg Peer.phase judged).trans phase', (congrArg Peer.stem judged).trans stem',
    (congrArg Peer.lastHeard judged).trans lastHeard, (congrArg Peer.timeout judged).trans timeout,
    marked ▸ heldBy, ?_, fun isFresh => ?_, fun notFresh => ?_, (congrArg Peer.wheelTotal judged).trans wheel,
    (congrArg Peer.leftTotal judged).trans left, (congrArg Peer.rightTotal judged).trans right,
    (congrArg Peer.gapCount judged).trans gap, fun j different notOwn => ?_, fun calls empty => ?_, fun stays runs => ?_,
    fun restarts' notNew => ?_, fun runs isNew => ?_, fun runs notNew => ?_, ?_⟩
  · rw [based, baseline, newly, fresh, or_assoc]
  · obtain ⟨motion, roller, gate⟩ := cleared (fresh.mpr isFresh)
    exact ⟨(congrArg Peer.motionSeq judged).trans motion, (congrArg Peer.rollerSeq judged).trans roller,
      (congrArg Peer.gateSeq judged).trans gate⟩
  · obtain ⟨motion, roller, gate⟩ := kept (mt fresh.mp notFresh)
    exact ⟨(congrArg Peer.motionSeq judged).trans motion, (congrArg Peer.rollerSeq judged).trans roller,
      (congrArg Peer.gateSeq judged).trans gate⟩
  · rw [getElem_refresh_peers, if_neg (identity ▸ notOwn), others' j different, others j different]
  · exact slot'.trans (slot empty (calls.imp decide_eq_true decide_eq_true))
  · obtain ⟨slot, mark⟩ := quiet (decide_eq_false stays) (decide_eq_false runs)
    exact ⟨slot'.trans slot, mark'.trans mark⟩
  · exact record'.trans ((if_neg (mt newly.mp notNew)).trans (safety.trans (if_pos (decide_eq_true restarts'))))
  · exact record'.trans ((if_pos (newly.mpr isNew)).trans (capture (decide_eq_false runs)))
  · exact record'.trans ((if_neg (mt newly.mp notNew)).trans (safety.trans (if_neg (Bool.eq_false_iff.mp
      (decide_eq_false runs)))))
  · exact (refresh_refreshed y).symm.trans (congrArg State.refresh
      (congrArg (fun v : State => { v with peers := y.refresh.peers, safety := y.refresh.safety }) only))

end Sys2Proof.Proofs.Peers
end
